-- ==== Sys2Proof/Word.lean ====
section
/-! DEFINITION. The plain value types of the ZA-16: station and point numbers, counts with wrap, the check word
(00_scope.md, Conventions). -/

namespace Sys2Proof

/-- A station number, 0 to 15 (Conventions; R160). Subtraction and addition are modulo 16, as R40 and R41 need. -/
abbrev StationNo := Fin 16

/-- The index of a point at its owning station, 0 to 15 (Conventions). -/
abbrev PointIndex := Fin 16

/-- A point version, counted modulo 256 (R17). -/
abbrev Version := BitVec 8

/-- A frame sequence number, counted modulo 256 (R56). -/
abbrev SeqNo := BitVec 8

/-- The 16-bit check of a frame or of the configuration image (R34). -/
abbrev CheckWord := BitVec 16

/-- One yes/no value or pin level for each of sixteen indices; bit `i` is index `i` (R32, R1). -/
abbrev Mask := BitVec 16

/-- A point of the group, "point s.i" (Conventions). -/
structure PointRef where
  owner : StationNo
  index : PointIndex
  deriving DecidableEq, Repr

end Sys2Proof
end

