-- ==== Sys2Proof/Syntax.lean ====
section
/-! DEFINITION. The commands of the ZA-16: one constructor of `Instr` for each row of spec/opcode_table.json, with the
data that the event brings from outside the part, and the types those data are made of. The table gives the rows no
operand fields and no bits; the operands are the model's (log entry 1). -/

namespace Sys2Proof

/-! ### Points -/

/-- The position of a point in the point sequence (Table 3, R8). -/
inductive PointState where
  | quiet | raised | lapsed | held | cleared
  deriving DecidableEq, Repr

/-- The debounced reading of a field input after polarity (R4). -/
inductive Condition where
  | normal | abnormal
  deriving DecidableEq, Repr

/-- Table 7. -/
inductive Polarity where
  | abnormalWhenOpen | abnormalWhenClosed
  deriving DecidableEq, Repr

/-- The two point sequences (R12 to R16). -/
inductive PointMode where
  | locking | following
  deriving DecidableEq, Repr

/-- The debounce classes A, B and C (Table 8). -/
inductive DebounceClass where
  | a | b | c
  deriving DecidableEq, Repr

/-- The first-out group of a point; `g0` means that the point takes part in none (Table 11). -/
inductive FirstOutGroup where
  | g0 | g1 | g2 | g3
  deriving DecidableEq, Repr

/-- A (state, version) pair: what a snapshot, a publication and a mirror row hold of a point (R88, R91, R96). -/
structure PointPair where
  state : PointState
  version : Version
  deriving DecidableEq, Repr

/-! ### Frames (Table 24) -/

/-- The four status flags of the header, in the order sent (Table 24). -/
structure StatusFlags where
  configFault : Bool
  supplyWarning : Bool
  lineFault : Bool
  solo : Bool
  deriving DecidableEq, Repr, Inhabited

/-- The header fields but for the kind, which the body fixes (Table 24). -/
structure Header where
  sender : StationNo
  sequence : SeqNo
  phaseStep : Fin 16
  phaseFine : BitVec 8
  status : StatusFlags
  deriving DecidableEq, Repr, Inhabited

/-- One entry of an ANNOUNCE (Table 24). -/
structure AnnounceEntry where
  index : PointIndex
  state : PointState
  group : FirstOutGroup
  mark : Bool
  version : Version
  deriving DecidableEq, Repr

/-- One (index, version) pair of an ACK-REQ or RESET-REQ (Table 24). -/
structure ReqPair where
  index : PointIndex
  version : Version
  deriving DecidableEq, Repr

/-- The eight frame kinds (Table 24). -/
inductive FrameKind where
  | presence | hello | announce | ackReq | resetReq | silence | refreshReq | depart
  deriving DecidableEq, Repr

/-- The two classes of frame and of ladder slot (R45). -/
inductive FrameClass where
  | urgent | routine
  deriving DecidableEq, Repr

/-- A frame's kind and body (Table 24). -/
inductive Body where
  | presence (enabled : Mask)
  | hello (enabled : Mask)
  | announce (entries : List AnnounceEntry)
  | ackReq (target : StationNo) (pairs : List ReqPair)
  | resetReq (target : StationNo) (pairs : List ReqPair)
  | silence
  | refreshReq (target : StationNo)
  | depart
  deriving DecidableEq, Repr, Inhabited

/-- A frame less its check, which is formed from it (R32, R34). -/
structure Frame where
  header : Header
  body : Body
  deriving DecidableEq, Repr, Inhabited

/-! ### Pins and causes -/

/-- The three reset causes (Table 82). -/
inductive ResetCause where
  | powerOn | resetPin | supply
  deriving DecidableEq, Repr

/-- The levels of the seven strap pins; `true` is the high level (R160). -/
structure StrapPins where
  sn3 : Bool
  sn2 : Bool
  sn1 : Bool
  sn0 : Bool
  lr1 : Bool
  lr0 : Bool
  cfgen : Bool
  deriving DecidableEq, Repr

/-- The levels of the four key pins; `true` is the high level (R115). -/
structure KeyPins where
  kack : Bool
  krst : Bool
  ksil : Bool
  ktst : Bool
  deriving DecidableEq, Repr

/-- Whether a tone instant is one of period 16 only, or one of period 32, which is also one of period 16
(R134, R154). -/
inductive ToneInstant where
  | of16 | of32
  deriving DecidableEq, Repr

/-! ### Commands -/

/-- The commands: one constructor for each row of the table of operations and events. -/
inductive Instr where
  /-- STATION_RESET (R158): a reset cause comes into force. -/
  | stationReset (cause : ResetCause)
  /-- RELEASE_OF_RESET (R159): the last reset cause in force ends, with the strap pins at these levels. -/
  | releaseOfReset (pins : StrapPins)
  /-- END_OF_LOADING (R166). -/
  | endOfLoading
  /-- FIELD_INPUT_SAMPLE (R4): a sample instant of class `longest` and so of every shorter class (R3), with the pins
  FI0 to FI15 at these levels (1 is high). -/
  | fieldInputSample (longest : DebounceClass) (levels : Mask)
  /-- KEY_SAMPLE (R115), with the key pins at these levels. -/
  | keySample (levels : KeyPins)
  /-- LINE_BUSY (R28): the first carrier half on a QUIET line. -/
  | lineBusy
  /-- LINE_QUIET (R28): the 24th no-carrier half in succession. -/
  | lineQuiet
  /-- LADDER_REPEAT (R42). -/
  | ladderRepeat
  /-- LADDER_START_AFTER_UNHEARD_ATTEMPT (R42). -/
  | ladderStartAfterUnheardAttempt
  /-- SLOT_START (R46): the start of the station's slot of this class. -/
  | slotStart (cls : FrameClass)
  /-- OWN_START_MARK_END (R139). -/
  | ownStartMarkEnd
  /-- COLLISION (R51), found at the end of this half, counted from 1 at the first half of the start mark. -/
  | collision (half : Nat)
  /-- ATTEMPT_SUCCESS (R52). -/
  | attemptSuccess
  /-- ATTEMPT_FAILURE (R53). -/
  | attemptFailure
  /-- JAM_EVENT (R38). -/
  | jamEvent
  /-- PRESENCE_TIMER_EXPIRY (R49). -/
  | presenceTimerExpiry
  /-- LISTEN_WINDOW_END (R63). -/
  | listenWindowEnd
  /-- LOST_TIMER_EXPIRY (R78) of this peer entry. -/
  | lostTimerExpiry (peer : StationNo)
  /-- SUPPLY_WARNING_EVENT (R66, R168). -/
  | supplyWarningEvent
  /-- SUPPLY_RECOVERY_EVENT (R68, R168). -/
  | supplyRecoveryEvent
  /-- START_OF_FRAME (R30). -/
  | startOfFrame
  /-- DAMAGED_FRAME (R37). -/
  | damagedFrame
  /-- RECEIVE_PRESENCE (R73). -/
  | receivePresence (header : Header) (enabled : Mask)
  /-- RECEIVE_HELLO (R76). -/
  | receiveHello (header : Header) (enabled : Mask)
  /-- RECEIVE_ANNOUNCE (R99). -/
  | receiveAnnounce (header : Header) (entries : List AnnounceEntry)
  /-- RECEIVE_ACK_REQ (R130). -/
  | receiveAckReq (header : Header) (target : StationNo) (pairs : List ReqPair)
  /-- RECEIVE_RESET_REQ (R130). -/
  | receiveResetReq (header : Header) (target : StationNo) (pairs : List ReqPair)
  /-- RECEIVE_REFRESH_REQ (R131). -/
  | receiveRefreshReq (header : Header) (target : StationNo)
  /-- RECEIVE_SILENCE (R132). -/
  | receiveSilence (header : Header)
  /-- RECEIVE_DEPART (R77). -/
  | receiveDepart (header : Header)
  /-- RECEIVE_OWN_NUMBER_FRAME (R70): a valid frame of any kind whose sender is the own station number. -/
  | receiveOwnNumberFrame
  /-- FIRST_HIGH_SAMPLE (R29). -/
  | firstHighSample
  /-- SPIKE (R30). -/
  | spike
  /-- UNFRAMED_CARRIER (R30). -/
  | unframedCarrier
  /-- CDI_SAMPLE (R162), with CDI at this level. -/
  | cdiSample (level : Bool)
  /-- COMMON_PERIOD_START (R146). -/
  | commonPeriodStart
  /-- TONE_INSTANT (R154). -/
  | toneInstant (at32 : ToneInstant)
  deriving DecidableEq, Repr

end Sys2Proof
end

