-- ==== Sys2Proof/Decode.lean ====
section
/-! DEFINITION. Words of the opcode table. The ZA-16 has no instruction words: no row of spec/opcode_table.json gives bits
("fields": [] in every row), so no word spells a command. The frames of the group line and the configuration image, which
do have bits, are coded and decoded in Sys2Proof/Machine/Wire.lean and Sys2Proof/Machine/Image.lean. -/

namespace Sys2Proof

/-- The command that a word spells by the table's bits: no row gives bits, so none. -/
def decodeTableWord (_nbits _w : Nat) : Option Instr := none

end Sys2Proof
end

