-- ==== Sys2Proof/Config.lean ====
section
/-! DEFINITION. What is fixed for the machine and used to build its reset state: the presence period codes and the default
settings of Table 85; and the one free value, the frame that a command does not tell (log entry 28). -/

namespace Sys2Proof.Config

/-- The presence period codes of the configuration image (Table 84). -/
inductive PeriodCode where
  | quarter | half | one | two
  deriving DecidableEq, Repr

/-- The horn tones of the configuration image (Table 84, R154). -/
inductive HornTone where
  | continuous | warble
  deriving DecidableEq, Repr

/-- The five configuration fields of one own point (R9). -/
structure PointSettings where
  enabled : Bool
  polarity : Polarity
  mode : PointMode
  cls : DebounceClass
  group : FirstOutGroup
  deriving DecidableEq, Repr

/-- Table 85, default column, for one point. -/
def defaultPoint : PointSettings :=
  { enabled := true, polarity := .abnormalWhenOpen, mode := .locking, cls := .b, group := .g0 }

/-- The configuration in force (Table 85). -/
structure Settings where
  points : Vector PointSettings 16
  period : PeriodCode
  tone : HornTone
  deriving DecidableEq, Repr

/-- Table 85, default column: used with CFGEN 0, with a refused image and during LOADING. -/
def defaults : Settings :=
  { points := Vector.replicate 16 defaultPoint, period := .one, tone := .continuous }

/-- A free value (log entry 28): the frame that bore the own number where neither RECEIVE_OWN_NUMBER_FRAME nor LRX tells it. The
argument counts such frames, so that no two need be the same. -/
opaque freeFrame : Nat → Frame

end Sys2Proof.Config
end

