-- ==== Sys2Proof/Machine/State.lean ====
section
/-! DEFINITION. The state of the ZA-16, block by block (00_scope.md, Block Diagram), its reset value, and the reasons a
step can stop. Each piece of state has one home; what other blocks see of it is computed in
Sys2Proof/Machine/Flags.lean. -/

namespace Sys2Proof.Machine

open Sys2Proof.Config

/-- The reasons to stop with a fault. The spec names no event at which the part stops: a reset, a jam or a refused image
all lead to a next state. So there is no constructor, and nothing raises one. -/
inductive Fault where
  deriving DecidableEq, Repr

/-- The reasons to refuse a command. -/
inductive Refusal where
  /-- Raised by `exec` for a command that has no meaning yet; no command of the table is in that case. Safe: the run
  stops. -/
  | notModelled (mnemonic : String)
  deriving DecidableEq, Repr

/-! ### Chapter 1: own point records and the Input Scanner -/

/-- One own point record (Table 11). The published version and published state are set together (R91) and are absent
together, so they are held as one pair. -/
structure OwnPoint where
  enabled : Bool
  polarity : Polarity
  mode : PointMode
  cls : DebounceClass
  group : FirstOutGroup
  condition : Condition
  state : PointState
  version : Version
  published : Option PointPair
  snapshot : Option PointPair
  deriving DecidableEq, Repr

/-! ### Chapter 2: the Line Interface -/

/-- The frame receiver states (Table 22). -/
inductive RxState where
  | off | idle | mark | frame | wait | transmit
  deriving DecidableEq, Repr

/-- The line status (R28). -/
inductive LineStatus where
  | quiet | busy
  deriving DecidableEq, Repr

/-- What the half-bit windows were last aligned to (R27, Table 28). -/
inductive WindowOrigin where
  | stopped | firstLineClock | highSample | ownAttempt
  deriving DecidableEq, Repr

/-- The Line Interface (R27 to R29, R38). `decided` is the number of half-bits decided since the windows were last aligned;
a BT ends where it is even. `windowPart` is how much of the half-bit window the ticks have passed in WAIT, in 32768ths of a
half; a window begins at a tick (log entries 3 and 32). -/
structure LineInterface where
  receiver : RxState
  status : LineStatus
  quietCount : Fin 25
  jamCount : Fin 2049
  windows : WindowOrigin
  decided : Nat
  windowPart : Fin 32768
  deriving DecidableEq, Repr

/-! ### Chapter 3: the Access Controller -/

/-- A timer of the part: it takes ticks while running (R135). -/
structure Timer where
  running : Bool
  ticks : Nat
  deriving DecidableEq, Repr

/-- A running ladder: its repeat number, and the number of the first slot that has not begun yet (R42; log entries
11 and 20). -/
structure Ladder where
  rep : Nat
  nextSlot : Nat
  deriving DecidableEq, Repr

/-- An attempt in progress (R50): the frame built (its phase fields are 0 until they are sampled), whether the phase has
been sampled (R139), whether the line became BUSY since the attempt began (R29), and the half at the end of which the
transmit monitor found a collision (R51). -/
structure Attempt where
  frame : Frame
  phaseSampled : Bool
  heard : Bool
  collision : Option Nat
  deriving DecidableEq, Repr

/-- The Access Controller (Table 38). `unheardWait` holds while the 12 BT after an attempt that was not heard run
(R42). -/
structure AccessController where
  rotation : Fin 16
  ladder : Option Ladder
  attempt : Option Attempt
  unheardWait : Bool
  sequence : SeqNo
  failedCount : Fin 17
  lineFault : Bool
  presenceTimer : Timer
  presencePending : Bool
  deriving DecidableEq, Repr

/-! ### Chapter 4: the Membership Controller and the Presence Table -/

/-- The own membership state (Table 42). -/
inductive Membership where
  | loading | listen | group | solo | warning | departed | duplicate
  deriving DecidableEq, Repr

/-- The return state recorded at a supply warning (R66). -/
inductive ReturnState where
  | listen | group
  deriving DecidableEq, Repr

/-- The Membership Controller (Table 47, without the Presence Table). -/
structure MembershipController where
  own : Membership
  listenTimer : Timer
  helloQueued : Bool
  departPending : Bool
  departFailures : Fin 5
  heldRecovery : Bool
  returnState : Option ReturnState
  deriving DecidableEq, Repr

/-- The state of a peer entry (Table 44). -/
inductive PeerState where
  | absent | present | lost | departed
  deriving DecidableEq, Repr

/-- A peer entry (Table 44). -/
structure PeerEntry where
  state : PeerState
  lastSequence : Option SeqNo
  flags : StatusFlags
  silence : Timer
  deriving DecidableEq, Repr

/-! ### Chapter 6: the Mirror Table -/

/-- A mirror row (Table 53). `content` is absent exactly when the state is VACANT, so the version is absent exactly
then. -/
structure MirrorRow where
  content : Option PointPair
  group : FirstOutGroup
  stale : Bool
  horn : Bool
  deriving DecidableEq, Repr

/-- The three first-out registers (R108). -/
structure FirstOut where
  r1 : Option PointRef
  r2 : Option PointRef
  r3 : Option PointRef
  deriving DecidableEq, Repr

/-- The Mirror Table. The own rows are the own point records (R97), so of them only the horn flags are held here; the
sixteen places of `remote` that bear the own station number are not rows and stay VACANT. -/
structure MirrorTable where
  remote : Vector (Vector MirrorRow 16) 16
  ownHorn : Vector Bool 16
  firstOut : FirstOut
  deriving DecidableEq, Repr

/-! ### Chapter 7: the Key Scanner and the Request Queue -/

/-- The debounce of one key (R115). -/
structure KeyDebounce where
  pressed : Bool
  disagree : Fin 4
  deriving DecidableEq, Repr

/-- The Key Scanner (R115, R121). -/
structure KeyScanner where
  kack : KeyDebounce
  krst : KeyDebounce
  ksil : KeyDebounce
  ktst : KeyDebounce
  testHeld : Bool
  deriving DecidableEq, Repr

/-- The kind, target and list of a request entry (Table 61): a target and a list are present exactly where the kind has
them. -/
inductive Request where
  | ackReq (target : StationNo) (pairs : List ReqPair)
  | resetReq (target : StationNo) (pairs : List ReqPair)
  | silence
  | refreshReq (target : StationNo)
  deriving DecidableEq, Repr

/-- A request entry (Table 61). -/
structure RequestEntry where
  request : Request
  inFlight : Bool
  merged : Bool
  deriving DecidableEq, Repr

/-- The Request Queue, oldest entry first, and the REQUEST REFUSED indication (R122, R124). -/
structure RequestQueue where
  entries : List RequestEntry
  refused : Bool
  deriving DecidableEq, Repr

/-! ### Chapter 8: the Blink Timebase -/

/-- The Blink Timebase (Table 70). The reference station is a function of the Presence Table (R140). DESIGN CHOICE: the rules
give the tick count and the elapsed count no width, and both are without bound (log entry 20). -/
structure TimeBase where
  tickCount : Nat
  wheel : Fin 32768
  elapsed : Option Nat
  deriving DecidableEq, Repr

/-! ### Chapter 9: the Panel Driver -/

/-- The two horn tones of Table 78. -/
inductive Tone where
  | high | low
  deriving DecidableEq, Repr

/-- A tone period in progress on HORN: its tone and the ticks since it began (R154), without bound (log entry 20). -/
structure TonePeriod where
  tone : Tone
  elapsed : Nat
  deriving DecidableEq, Repr

/-- The Panel Driver: the LCD frame count, the selected common (absent while no frame runs), the values held of its 35
cells (R146), the tone in force, the tone period in progress, and whether that period is to be cut at the next tick
(R153). The line levels follow from these (Table 73). -/
structure PanelDriver where
  lcdFrame : Nat
  common : Option (Fin 8)
  cells : Vector Bool 35
  tone : HornTone
  hornPeriod : Option TonePeriod
  hornCut : Bool
  deriving DecidableEq, Repr

/-! ### Chapter 10: the Start-up Controller and Supply Monitor -/

/-- The reset causes in force (Table 82). -/
structure ResetGate where
  powerOn : Bool
  resetPin : Bool
  supply : Bool
  deriving DecidableEq, Repr

/-- The strap latch (Table 83). -/
structure Straps where
  station : StationNo
  lineRate : Fin 4
  cfgen : Bool
  deriving DecidableEq, Repr

/-- The Start-up Controller and Supply Monitor (Table 88). `check` is the check register of the image read (R162). -/
structure StartUp where
  causes : ResetGate
  straps : Straps
  ccs : Bool
  cck : Bool
  image : List Bool
  check : CheckWord
  period : PeriodCode
  configFault : Bool
  supplyWarning : Bool
  deriving DecidableEq, Repr

/-! ### Pins driven from outside -/

/-- The levels that the plant, the operator and the configuration memory last put on the input pins, and, for LRX, the
eight samples of each half-bit to come that no command tells (R27, log entries 2 and 3). `frameEnds` are the tick
counts at whose very moment a frame on the line ends, which no command tells either (R144, log entry 29). `untold` is the
model's own: how many frames with the own number have passed that neither a command nor `lrx` tells (log entry 28). -/
structure InputPins where
  fi : Mask
  keys : KeyPins
  cdi : Bool
  lrx : List (Vector Bool 8)
  frameEnds : List Nat
  untold : Nat
  deriving DecidableEq, Repr

/-- The whole station, and the queue of the commands that are waiting, first in, first out. `list` is the Announcement
List (R82); `disagree` holds the disagree counts of the field inputs (R4). -/
structure State where
  startup : StartUp
  disagree : Vector (Fin 4) 16
  points : Vector OwnPoint 16
  list : List PointIndex
  line : LineInterface
  access : AccessController
  member : MembershipController
  peers : Vector PeerEntry 16
  mirror : MirrorTable
  keys : KeyScanner
  queue : RequestQueue
  time : TimeBase
  panel : PanelDriver
  pins : InputPins
  pending : List Instr
  deriving DecidableEq, Repr

/-! ### Reset values -/

/-- A timer stopped at 0. -/
def Timer.stopped : Timer := { running := false, ticks := 0 }

/-- A timer started from 0 (R135). -/
def Timer.started : Timer := { running := true, ticks := 0 }

/-- All four status flags clear (Table 44). -/
def noFlags : StatusFlags := { configFault := false, supplyWarning := false, lineFault := false, solo := false }

/-- A record with these settings and the reset values of the other fields (Table 11, R9). -/
def OwnPoint.fresh (c : PointSettings) : OwnPoint :=
  { enabled := c.enabled, polarity := c.polarity, mode := c.mode, cls := c.cls, group := c.group, condition := .normal,
    state := .quiet, version := 0, published := none, snapshot := none }

/-- Table 44, reset column. -/
def PeerEntry.reset : PeerEntry :=
  { state := .absent, lastSequence := none, flags := noFlags, silence := .stopped }

/-- A VACANT row (R96). -/
def MirrorRow.vacant : MirrorRow := { content := none, group := .g0, stale := false, horn := false }

/-- All three registers empty (R108). -/
def FirstOut.empty : FirstOut := { r1 := none, r2 := none, r3 := none }

/-- R116. -/
def KeyDebounce.reset : KeyDebounce := { pressed := false, disagree := 0 }

/-- The Line Interface at the start of line processing (Table 28); the first window begins at that tick (log entry 32). -/
def LineInterface.start : LineInterface :=
  { receiver := .wait, status := .busy, quietCount := 0, jamCount := 0, windows := .firstLineClock, decided := 0,
    windowPart := 0 }

/-- The Line Interface while stopped (R29, R39); the counts and the status are those it will start with (log
entry 16). -/
def LineInterface.reset : LineInterface :=
  { LineInterface.start with receiver := .off, windows := .stopped }

/-- Table 38. -/
def AccessController.reset : AccessController :=
  { rotation := 0, ladder := none, attempt := none, unheardWait := false, sequence := 0, failedCount := 0,
    lineFault := false, presenceTimer := .stopped, presencePending := false }

/-- Table 47. -/
def MembershipController.reset : MembershipController :=
  { own := .loading, listenTimer := .stopped, helloQueued := false, departPending := false, departFailures := 0,
    heldRecovery := false, returnState := none }

/-- Table 57. -/
def MirrorTable.reset : MirrorTable :=
  { remote := Vector.replicate 16 (Vector.replicate 16 .vacant), ownHorn := Vector.replicate 16 false,
    firstOut := .empty }

/-- Table 62. -/
def KeyScanner.reset : KeyScanner :=
  { kack := .reset, krst := .reset, ksil := .reset, ktst := .reset, testHeld := false }

/-- Table 62. -/
def RequestQueue.reset : RequestQueue := { entries := [], refused := false }

/-- Table 70. -/
def TimeBase.reset : TimeBase := { tickCount := 0, wheel := 0, elapsed := none }

/-- Table 79, which gives the lines at VSS. DESIGN CHOICE: no rule gives the 35 held cells a value before the first common
period, and the model holds all of them off (log entry 34). -/
def PanelDriver.reset : PanelDriver :=
  { lcdFrame := 0, common := none, cells := Vector.replicate 35 false, tone := defaults.tone, hornPeriod := none,
    hornCut := false }

/-- Table 88, while these causes hold reset in force. The strap latch is not yet sampled; its value then is the
model's (log entry 4), and so is that of the check register (log entry 34). -/
def StartUp.reset (causes : ResetGate) : StartUp :=
  { causes := causes, straps := { station := 0, lineRate := 0, cfgen := false }, ccs := true, cck := false, image := [],
    check := BitVec.allOnes 16, period := defaults.period, configFault := false, supplyWarning := false }

/-- The pins with nothing driving them: the internal pull-ups hold FI and the keys high (R1, R115), and LRX shows no
carrier. -/
def InputPins.idle : InputPins :=
  { fi := BitVec.allOnes 16, keys := { kack := true, krst := true, ksil := true, ktst := true }, cdi := false, lrx := []
    frameEnds := [], untold := 0 }

/-- Every block at its station-reset values (R158), with these causes in force, these pins and this queue. -/
def State.inReset (causes : ResetGate) (pins : InputPins) (pending : List Instr) : State :=
  { startup := .reset causes, disagree := Vector.replicate 16 0,
    points := Vector.replicate 16 (.fresh defaultPoint), list := [], line := .reset, access := .reset,
    member := .reset, peers := Vector.replicate 16 .reset, mirror := .reset, keys := .reset, queue := .reset,
    time := .reset, panel := .reset, pins := pins, pending := pending }

/-- The machine right after reset: power-on holds reset in force, every block has its reset values (R158), nothing
drives the input pins, and no command waits. -/
def State.reset : State :=
  .inReset { powerOn := true, resetPin := false, supply := false } .idle []

end Sys2Proof.Machine
end

