-- ==== Sys2Proof/Machine/Wire.lean ====
section
/-! DEFINITION. Chapter 2 below the line events: bits, the check, the frame layout and its receiver, half-bits and the
start mark, the majority decision, the quiet and jam counts, and the transmit monitor. The commands of the table are the
events that these definitions find on the line; a built frame's halves on LTX are `frameHalves`. -/

namespace Sys2Proof.Machine

/-! ### Bits, most significant first (R26) -/

/-- The low `w` bits of `n`, most significant first. -/
def toBits : Nat → Nat → List Bool
  | 0, _ => []
  | w + 1, n => n.testBit w :: toBits w n

/-- The number whose bits these are, most significant first. -/
def ofBits (bits : List Bool) : Nat :=
  bits.foldl (fun n b => 2 * n + b.toNat) 0

/-! ### The check (R34) -/

/-- One bit into the check register. -/
def checkStep (reg : CheckWord) (bit : Bool) : CheckWord :=
  if reg.msb = bit then reg <<< 1 else (reg <<< 1) ^^^ 0x1021#16

/-- The check over these bits, in order. -/
def checkOf (bits : List Bool) : CheckWord :=
  bits.foldl checkStep (BitVec.allOnes 16)

/-! ### Field codes (Table 24) -/

/-- The code of a point state. -/
def stateCode : PointState → Nat
  | .quiet => 0
  | .raised => 1
  | .lapsed => 2
  | .held => 3
  | .cleared => 4

/-- The point state with this code; 5 to 7 are out of range (Table 26). -/
def stateOfCode : Nat → Option PointState
  | 0 => some .quiet
  | 1 => some .raised
  | 2 => some .lapsed
  | 3 => some .held
  | 4 => some .cleared
  | _ => none

/-- The code of a first-out group. -/
def groupCode : FirstOutGroup → Nat
  | .g0 => 0
  | .g1 => 1
  | .g2 => 2
  | .g3 => 3

/-- The first-out group with this two-bit code. -/
def groupOfCode (n : Nat) : FirstOutGroup :=
  match n with
  | 0 => .g0
  | 1 => .g1
  | 2 => .g2
  | _ => .g3

/-- The kind of a body. -/
def bodyKind : Body → FrameKind
  | .presence _ => .presence
  | .hello _ => .hello
  | .announce _ => .announce
  | .ackReq _ _ => .ackReq
  | .resetReq _ _ => .resetReq
  | .silence => .silence
  | .refreshReq _ => .refreshReq
  | .depart => .depart

/-- The code of a frame kind. -/
def kindCode : FrameKind → Nat
  | .presence => 0
  | .hello => 1
  | .announce => 2
  | .ackReq => 3
  | .resetReq => 4
  | .silence => 5
  | .refreshReq => 6
  | .depart => 7

/-- The frame kind with this code; 8 to 15 are out of range (Table 26). -/
def kindOfCode : Nat → Option FrameKind
  | 0 => some .presence
  | 1 => some .hello
  | 2 => some .announce
  | 3 => some .ackReq
  | 4 => some .resetReq
  | 5 => some .silence
  | 6 => some .refreshReq
  | 7 => some .depart
  | _ => none

/-- The four status flags as sent (Table 24). -/
def flagBits (f : StatusFlags) : List Bool :=
  [f.configFault, f.supplyWarning, f.lineFault, f.solo]

/-- The four status flags of a four-bit status field. -/
def flagsOfCode (n : Nat) : StatusFlags :=
  { configFault := n.testBit 3, supplyWarning := n.testBit 2, lineFault := n.testBit 1, solo := n.testBit 0 }

/-! ### The frame layout (R32) -/

/-- One ANNOUNCE entry as sent: 18 bits. -/
def entryBits (e : AnnounceEntry) : List Bool :=
  toBits 4 e.index ++ toBits 3 (stateCode e.state) ++ toBits 2 (groupCode e.group) ++ [e.mark] ++ toBits 8 e.version.toNat

/-- One pair as sent: 12 bits. -/
def pairBits (p : ReqPair) : List Bool :=
  toBits 4 p.index ++ toBits 8 p.version.toNat

/-- The body as sent. The first bit of a mask is index 15. -/
def bodyBits : Body → List Bool
  | .presence m => toBits 16 m.toNat
  | .hello m => toBits 16 m.toNat
  | .announce es => toBits 5 es.length ++ es.flatMap entryBits
  | .ackReq t ps => toBits 4 t ++ toBits 5 ps.length ++ ps.flatMap pairBits
  | .resetReq t ps => toBits 4 t ++ toBits 5 ps.length ++ ps.flatMap pairBits
  | .silence => []
  | .refreshReq t => toBits 4 t
  | .depart => []

/-- The bits that the check covers: sender through the last body bit. -/
def frameCovered (f : Frame) : List Bool :=
  toBits 4 f.header.sender ++ toBits 4 (kindCode (bodyKind f.body)) ++ toBits 8 f.header.sequence.toNat ++
    toBits 4 f.header.phaseStep ++ toBits 8 f.header.phaseFine.toNat ++ flagBits f.header.status ++ bodyBits f.body

/-- The bits after the start mark. -/
def frameBits (f : Frame) : List Bool :=
  frameCovered f ++ toBits 16 (checkOf (frameCovered f)).toNat

/-- The length of a transmission in BT, start mark included (Table 25). -/
def frameLength : Body → Nat
  | .presence _ => 68
  | .hello _ => 68
  | .announce es => 57 + 18 * es.length
  | .ackReq _ ps => 61 + 12 * ps.length
  | .resetReq _ ps => 61 + 12 * ps.length
  | .silence => 52
  | .refreshReq _ => 56
  | .depart => 52

/-! ### Field checks (R33) -/

/-- The checks of Table 26 on the entries of an ANNOUNCE: 1 to 16 of them, no index twice, no mark in group 0. -/
def entriesInRange (es : List AnnounceEntry) : Bool :=
  decide (1 ≤ es.length) && decide (es.length ≤ 16) && decide (es.map (·.index)).Nodup &&
    es.all fun e => !(e.mark && e.group == .g0)

/-- The checks of Table 26 on the pairs of a request: 1 to 16 of them, in rising index. -/
def pairsInRange (ps : List ReqPair) : Bool :=
  decide (1 ≤ ps.length) && decide (ps.length ≤ 16) && decide ((ps.map (·.index)).Pairwise (· < ·))

/-- Whether every field of the body is in range (R33). -/
def bodyInRange : Body → Bool
  | .announce es => entriesInRange es
  | .ackReq _ ps => pairsInRange ps
  | .resetReq _ ps => pairsInRange ps
  | _ => true

/-! ### The receiver's decoding (R31, R33, R35) -/

/-- What a read of some bits gives: a value and the bits left, too few bits so far, or a field out of range. -/
inductive Parse (α : Type) where
  | done (value : α) (rest : List Bool)
  | short
  | bad
  deriving DecidableEq, Repr

/-- Go on with the bits left. -/
def Parse.andThen {α β : Type} (p : Parse α) (next : α → List Bool → Parse β) : Parse β :=
  match p with
  | .done value rest => next value rest
  | .short => .short
  | .bad => .bad

/-- A field of `w` bits. -/
def readField (w : Nat) (bits : List Bool) : Parse Nat :=
  if w ≤ bits.length then .done (ofBits (bits.take w)) (bits.drop w) else .short

/-- One ANNOUNCE entry, each field checked as it completes; `seen` are the indices of the earlier entries. -/
def readEntry (seen : List PointIndex) (bits : List Bool) : Parse AnnounceEntry :=
  (readField 4 bits).andThen fun i bits =>
    let index : PointIndex := Fin.ofNat 16 i
    if index ∈ seen then .bad
    else (readField 3 bits).andThen fun s bits =>
      match stateOfCode s with
      | none => .bad
      | some state => (readField 2 bits).andThen fun g bits =>
        (readField 1 bits).andThen fun m bits =>
          if m = 1 ∧ groupOfCode g = .g0 then .bad
          else (readField 8 bits).andThen fun v bits =>
            .done { index := index, state := state, group := groupOfCode g, mark := m == 1, version := BitVec.ofNat 8 v }
              bits

/-- `n` ANNOUNCE entries after those with the indices `seen`. -/
def readEntries : Nat → List PointIndex → List Bool → Parse (List AnnounceEntry)
  | 0, _, bits => .done [] bits
  | n + 1, seen, bits =>
    (readEntry seen bits).andThen fun e bits =>
      (readEntries n (e.index :: seen) bits).andThen fun es bits => .done (e :: es) bits

/-- `n` pairs, each with an index above `last`, the index of the pair before. -/
def readPairs : Nat → Option PointIndex → List Bool → Parse (List ReqPair)
  | 0, _, bits => .done [] bits
  | n + 1, last, bits =>
    (readField 4 bits).andThen fun i bits =>
      let index : PointIndex := Fin.ofNat 16 i
      if last.any (fun l => decide (index ≤ l)) then .bad
      else (readField 8 bits).andThen fun v bits =>
        (readPairs n (some index) bits).andThen fun ps bits =>
          .done ({ index := index, version := BitVec.ofNat 8 v } :: ps) bits

/-- A count field of 5 bits, 1 to 16 (Table 26). -/
def readCount (bits : List Bool) : Parse Nat :=
  (readField 5 bits).andThen fun n bits => if 1 ≤ n ∧ n ≤ 16 then .done n bits else .bad

/-- A target, a count and that many pairs. -/
def readRequest (bits : List Bool) : Parse (StationNo × List ReqPair) :=
  (readField 4 bits).andThen fun t bits =>
    (readCount bits).andThen fun n bits =>
      (readPairs n none bits).andThen fun ps bits => .done (Fin.ofNat 16 t, ps) bits

/-- The body of this kind. -/
def readBody (kind : FrameKind) (bits : List Bool) : Parse Body :=
  match kind with
  | .presence => (readField 16 bits).andThen fun m bits => .done (.presence (BitVec.ofNat 16 m)) bits
  | .hello => (readField 16 bits).andThen fun m bits => .done (.hello (BitVec.ofNat 16 m)) bits
  | .announce => (readCount bits).andThen fun n bits =>
      (readEntries n [] bits).andThen fun es bits => .done (.announce es) bits
  | .ackReq => (readRequest bits).andThen fun r bits => .done (.ackReq r.1 r.2) bits
  | .resetReq => (readRequest bits).andThen fun r bits => .done (.resetReq r.1 r.2) bits
  | .silence => .done .silence bits
  | .refreshReq => (readField 4 bits).andThen fun t bits => .done (.refreshReq (Fin.ofNat 16 t)) bits
  | .depart => .done .depart bits

/-- Header and body. -/
def readCovered (bits : List Bool) : Parse Frame :=
  (readField 4 bits).andThen fun sender bits =>
    (readField 4 bits).andThen fun k bits =>
      match kindOfCode k with
      | none => .bad
      | some kind =>
        (readField 8 bits).andThen fun sequence bits =>
          (readField 4 bits).andThen fun step bits =>
            (readField 8 bits).andThen fun fine bits =>
              (readField 4 bits).andThen fun status bits =>
                (readBody kind bits).andThen fun body bits =>
                  .done
                    { header :=
                        { sender := Fin.ofNat 16 sender, sequence := BitVec.ofNat 8 sequence,
                          phaseStep := Fin.ofNat 16 step, phaseFine := BitVec.ofNat 8 fine,
                          status := flagsOfCode status },
                      body := body }
                    bits

/-- The frame that these bits hold, if they hold a whole one: its check is compared at its end (R34); `bad` is a damaged
frame. -/
def readFrame (bits : List Bool) : Parse Frame :=
  (readCovered bits).andThen fun f rest =>
    (readField 16 rest).andThen fun check left =>
      if check = (checkOf (bits.take (bits.length - rest.length))).toNat then .done f left else .bad

/-- What the frame receiver has delivered in FRAME: a valid-frame event, a damaged-frame event, or nothing yet. -/
inductive Reception where
  | valid (frame : Frame)
  | damaged
  | unfinished
  deriving DecidableEq, Repr

/-! ### Half-bits (R25, R26, R27) -/

/-- What one BT of two half-bits is (Table 21); `true` is carrier. -/
inductive Symbol where
  | one | zero | doubleCarrier | lostCarrier
  deriving DecidableEq, Repr

/-- Table 21. -/
def symbolOf (first second : Bool) : Symbol :=
  match first, second with
  | true, false => .one
  | false, true => .zero
  | true, true => .doubleCarrier
  | false, false => .lostCarrier

/-- The two halves of a data bit (Table 21). -/
def bitHalves (bit : Bool) : List Bool := [bit, !bit]

/-- Six carrier halves, then two without carrier (R26). -/
def startMark : List Bool := [true, true, true, true, true, true, false, false]

/-- The whole transmission, half by half (R26). -/
def frameHalves (f : Frame) : List Bool :=
  startMark ++ (frameBits f).flatMap bitHalves

/-- The data bits of these halves up to the first illegal symbol, and whether there is one. -/
def decodeHalves : List Bool → List Bool × Bool
  | first :: second :: rest =>
    match symbolOf first second with
    | .one => (true :: (decodeHalves rest).1, (decodeHalves rest).2)
    | .zero => (false :: (decodeHalves rest).1, (decodeHalves rest).2)
    | _ => ([], true)
  | _ => ([], false)

/-- What the receiver makes of the halves after the start mark (R31, R35, R37). -/
def receiveHalves (halves : List Bool) : Reception :=
  match readFrame (decodeHalves halves).1 with
  | .done f _ => .valid f
  | .bad => .damaged
  | .short => if (decodeHalves halves).2 then .damaged else .unfinished

/-- The majority decision over the eight samples of a half-bit: five or more high samples make a carrier half (R27). -/
def decideHalf (samples : Vector Bool 8) : Bool :=
  decide (5 ≤ (samples.toList.filter id).length)

/-- The outcome of MARK (R30): a spike, unframed carrier found at this half, or a start mark. -/
inductive MarkOutcome where
  | spike
  | unframed (half : Nat)
  | startMark
  | unfinished
  deriving DecidableEq, Repr

/-- Compare the decided halves with the start mark, from half `n`. -/
def markFrom (n : Nat) : List Bool → List Bool → MarkOutcome
  | [], _ => .startMark
  | _ :: _, [] => .unfinished
  | want :: wants, got :: gots =>
    if want = got then markFrom (n + 1) wants gots
    else if n = 1 then .spike
    else .unframed n

/-- What MARK makes of the halves decided since the first high sample (R30). -/
def markOutcome (halves : List Bool) : MarkOutcome := markFrom 1 startMark halves

/-- One decided half into the quiet count, 0 to 24 (R28). The line is QUIET when the count is 24. -/
def quietStep (count : Fin 25) (carrier : Bool) : Fin 25 :=
  if carrier then 0 else if count.val < 24 then Fin.ofNat 25 (count.val + 1) else count

/-- The end of one BT on a BUSY line (R38): the jam count after it, and whether it delivers the jam event. -/
def jamStep (count : Fin 2049) : Fin 2049 × Bool :=
  if count.val < 2048 then (Fin.ofNat 2049 (count.val + 1), count.val + 1 == 2048) else (count, false)

/-! ### Transmitting (R23, R24, R51) -/

/-- The bit rate of a line rate code, in bit/s (Table 4). -/
def bitRate (code : Fin 4) : Nat :=
  match code with
  | 0 => 4800
  | 1 => 9600
  | 2 => 19200
  | 3 => 38400

/-- The line clock, 16 times the bit rate (R23). -/
def lineClock (code : Fin 4) : Nat := 16 * bitRate code

/-- LTX in each half-period of the line clock during one half-bit: eight periods, high phase first, or low throughout
(R24). -/
def ltxWave (carrier : Bool) : List Bool :=
  (List.replicate 8 [carrier, false]).flatten

/-- The first half, counted from 1, at which what is heard differs from what is sent (R51). -/
def firstDifference : List Bool → List Bool → Option Nat
  | sent :: sents, heard :: heards =>
    if sent = heard then (firstDifference sents heards).map (· + 1) else some 1
  | _, _ => none

/-- The halves that leave LTX when a collision is found at the end of half `h`: half `h + 1` is sent as built, if there is
one (R51). -/
def sentHalves (f : Frame) (collision : Option Nat) : List Bool :=
  match collision with
  | none => frameHalves f
  | some h => (frameHalves f).take (h + 1)

end Sys2Proof.Machine
end

