-- ==== Sys2Proof/Machine/Flags.lean ====
section
/-! DEFINITION. What is computed from the state and held nowhere: the publication mode, the mirror rows as read, the horn
demand, the alert and silenced conditions, the reference station, the status flags, and the pins ALERTN, FAULTN, HORN and
LTX. -/

namespace Sys2Proof.Machine

open Sys2Proof.Config

/-! ### The station -/

/-- Some reset cause holds reset in force (R158). -/
def inReset (s : State) : Bool :=
  s.startup.causes.powerOn || s.startup.causes.resetPin || s.startup.causes.supply

/-- The own station number (R160). -/
def ownNumber (s : State) : StationNo := s.startup.straps.station

/-- The own membership state is LOADING; the scanners and the Line Interface run exactly while it is not (R7, R39,
R116). -/
def loading (s : State) : Bool := s.member.own == .loading

/-- Local publication mode holds (R92). -/
def localMode (s : State) : Bool :=
  match s.member.own with
  | .loading => false
  | .listen => s.access.lineFault
  | .group => s.access.lineFault
  | .solo => true
  | .warning => true
  | .departed => true
  | .duplicate => true

/-- The station may begin an attempt (R44). -/
def mayTransmit (s : State) : Bool :=
  match s.member.own with
  | .group => true
  | .solo => true
  | .warning => true
  | _ => false

/-- The four status flags of a frame built now (R48). -/
def statusFlags (s : State) : StatusFlags :=
  { configFault := s.startup.configFault, supplyWarning := s.startup.supplyWarning, lineFault := s.access.lineFault,
    solo := s.member.own == .solo }

/-! ### Timers (Table 67) -/

/-- The presence period P in ticks (R49). -/
def periodTicks : PeriodCode → Nat
  | .quarter => 8192
  | .half => 16384
  | .one => 32768
  | .two => 65536

/-- A timer has reached this length (R135). -/
def expired (length : Nat) (t : Timer) : Bool := t.running && t.ticks == length

/-- P of the configuration in force. -/
def presencePeriod (s : State) : Nat := periodTicks s.startup.period

/-- The listen window, 2P (R61). -/
def listenWindow (s : State) : Nat := 2 * presencePeriod s

/-- The length of a lost timer, 3P (R78). -/
def lostLength (s : State) : Nat := 3 * presencePeriod s

/-! ### The Presence Table -/

/-- Peer `p` is PRESENT; the own entry is SELF and never counts (R72). -/
def isPresent (s : State) (p : StationNo) : Bool :=
  p != ownNumber s && s.peers[p].state == .present

/-- Some peer entry is PRESENT (R65). -/
def anyPresent (s : State) : Bool :=
  (List.finRange 16).any (isPresent s)

/-- The state that the presence rule gives a joined station (R65). -/
def presenceRule (s : State) : Membership :=
  if anyPresent s then .group else .solo

/-- The reference station: the lowest-numbered among SELF and the PRESENT peers (R140). -/
def reference (s : State) : StationNo :=
  ((List.finRange 16).find? fun p => p == ownNumber s || isPresent s p).getD (ownNumber s)

/-! ### Points and rows -/

/-- RAISED or LAPSED: not yet acknowledged. -/
def unacked : PointState → Bool
  | .raised => true
  | .lapsed => true
  | _ => false

/-- The (state, version) pair of a record. -/
def pairOf (r : OwnPoint) : PointPair := { state := r.state, version := r.version }

/-- The mirror row of point `i` of station `p` (R97): an own row shows the record, VACANT if the point is disabled. -/
def rowOf (s : State) (p : StationNo) (i : PointIndex) : MirrorRow :=
  if p = ownNumber s then
    let r := s.points[i]
    if r.enabled then
      { content := some (pairOf r), group := r.group, stale := false, horn := s.mirror.ownHorn[i] }
    else .vacant
  else s.mirror.remote[p][i]

/-- The row's state is one of those that `test` accepts; a VACANT row has none. -/
def rowIs (test : PointState → Bool) (row : MirrorRow) : Bool :=
  match row.content with
  | some pair => test pair.state
  | none => false

/-- Some row has this property. -/
def anyRow (s : State) (test : MirrorRow → Bool) : Bool :=
  (List.finRange 16).any fun p => (List.finRange 16).any fun i => test (rowOf s p i)

/-- The record is RAISED or LAPSED with a version that differs from its published version (R110). -/
def unpublishedRaise (r : OwnPoint) : Bool :=
  r.enabled && unacked r.state && (r.published.map (·.version) != some r.version)

/-- The horn demand (R110). -/
def hornDemand (s : State) : Bool :=
  anyRow s (·.horn) || s.points.toList.any unpublishedRaise

/-- The alert condition (R111). -/
def alertCondition (s : State) : Bool :=
  anyRow s fun row => !row.stale && rowIs unacked row

/-- The silenced condition (R112). -/
def silencedCondition (s : State) : Bool :=
  anyRow s (rowIs unacked) && !hornDemand s

/-! ### Output pins -/

/-- The sounding condition of the horn (R153). -/
def sounding (s : State) : Bool := s.keys.testHeld || hornDemand s

/-- ALERTN is active, that is driven low (R155). -/
def alertnActive (s : State) : Bool := !loading s && alertCondition s

/-- FAULTN is active, that is driven low (R156). -/
def faultnActive (s : State) : Bool :=
  !loading s &&
    (s.startup.configFault || s.access.lineFault || s.member.own == .duplicate || s.startup.supplyWarning ||
      (List.finRange 16).any fun p =>
        p != ownNumber s && (s.peers[p].state == .lost || s.peers[p].state == .departed))

/-- The length of a tone period in ticks (Table 78). -/
def tonePeriod : Tone → Nat
  | .high => 16
  | .low => 32

/-- HORN is high: during the first half of a tone period (R154). -/
def hornHigh (s : State) : Bool :=
  match s.panel.hornPeriod with
  | some t => decide (2 * t.elapsed < tonePeriod t.tone)
  | none => false

/-- The line clock of the station, in periods a second: 16 times the bit rate of the latched line rate code (R23,
R160). -/
def stationLineClock (s : State) : Nat := lineClock s.startup.straps.lineRate

/-- LTX may carry carrier: an attempt is in progress (R24); it is low at all other times. -/
def ltxDriven (s : State) : Bool := s.access.attempt.isSome

end Sys2Proof.Machine
end

