-- ==== Sys2Proof/Machine/Ops.lean ====
section
/-! DEFINITION. The operations that several commands share on the own point records, the Announcement List, the Mirror
Table and the Request Queue. -/

namespace Sys2Proof.Machine

/-! ### First-out registers (R108) -/

/-- The register of a group; group 0 has none. -/
def FirstOut.get (f : FirstOut) : FirstOutGroup → Option PointRef
  | .g0 => none
  | .g1 => f.r1
  | .g2 => f.r2
  | .g3 => f.r3

/-- Put this content in the register of a group. -/
def FirstOut.put (f : FirstOut) (g : FirstOutGroup) (content : Option PointRef) : FirstOut :=
  match g with
  | .g0 => f
  | .g1 => { f with r1 := content }
  | .g2 => { f with r2 := content }
  | .g3 => { f with r3 := content }

/-- The register of the group takes the point if it is empty (R101, R102). -/
def FirstOut.take (f : FirstOut) (g : FirstOutGroup) (p : PointRef) : FirstOut :=
  if f.get g = none then f.put g (some p) else f

/-- The register of the group empties if it holds the point (R101). -/
def FirstOut.dropAt (f : FirstOut) (g : FirstOutGroup) (p : PointRef) : FirstOut :=
  if f.get g = some p then f.put g none else f

/-- Every register that holds such a point empties. -/
def FirstOut.dropIf (f : FirstOut) (test : PointRef → Bool) : FirstOut :=
  { r1 := f.r1.filter fun p => !test p, r2 := f.r2.filter fun p => !test p, r3 := f.r3.filter fun p => !test p }

/-! ### Publication (R91, R98, R102) -/

/-- The new-raise test (R98): the reference version is absent or another, and the state carried is not QUIET. -/
def isNewRaise (reference : Option Version) (pair : PointPair) : Bool :=
  reference != some pair.version && pair.state != .quiet

/-- The own row's horn flag after the publication of `pair` (R102). -/
def hornAfterOwn (r : OwnPoint) (pair : PointPair) (old : Bool) : Bool :=
  if unacked pair.state then
    (isNewRaise (r.published.map (·.version)) pair && unacked r.state) || old
  else false

/-- The registers after the publication of `pair` for own point `p` (R102). -/
def firstOutAfterOwn (r : OwnPoint) (p : PointRef) (pair : PointPair) (f : FirstOut) : FirstOut :=
  if isNewRaise (r.published.map (·.version)) pair && r.state != .quiet then f.take r.group p else f

/-- A publication of own point `i` (R91): the Mirror Table takes the pair (R102), then the published fields do. -/
def publish (i : PointIndex) (pair : PointPair) (s : State) : State :=
  let r := s.points[i]
  { s with
    points := s.points.set i { r with published := some pair }
    mirror :=
      { s.mirror with
        ownHorn := s.mirror.ownHorn.set i (hornAfterOwn r pair s.mirror.ownHorn[i])
        firstOut := firstOutAfterOwn r { owner := ownNumber s, index := i } pair s.mirror.firstOut } }

/-! ### The Announcement List (R82 to R84, R94) -/

/-- Append a point that is not listed (R83). -/
def append (i : PointIndex) (list : List PointIndex) : List PointIndex :=
  if i ∈ list then list else list ++ [i]

/-- A full refresh: every enabled own point that is not listed, in ascending index, at the tail (R84). -/
def fullRefresh (s : State) : State :=
  { s with list := s.list ++ (List.finRange 16).filter fun i => s.points[i].enabled && !s.list.contains i }

/-- The catch-up on one listed point (R94). -/
def catchUpPoint (s : State) (i : PointIndex) : State :=
  let r := s.points[i]
  if r.snapshot = none ∧ r.published ≠ some (pairOf r) then publish i (pairOf r) s else s

/-- The catch-up (R94). -/
def catchUp (s : State) : State := s.list.foldl catchUpPoint s

/-- The catch-up that goes with a change from `before` at which local publication mode begins (R94). DESIGN CHOICE, unsafe: an
entry to SOLO, WARNING or DUPLICATE while LINE FAULT is set is no beginning, because the mode holds already (R92), and takes no
catch-up (log entry 31). -/
def catchUpFrom (before : State) (s : State) : State :=
  if !localMode before && localMode s then catchUp s else s

/-! ### State changes of own points (R22) -/

/-- The own row's flags at a state change (R103): the horn flag clears unless the new state is RAISED or LAPSED, and a
register that holds the point empties if the new state is QUIET. -/
def mirrorAtChange (p : PointRef) (new : PointState) (m : MirrorTable) : MirrorTable :=
  { m with
    ownHorn := m.ownHorn.set p.index (unacked new && m.ownHorn[p.index])
    firstOut := if new = .quiet then m.firstOut.dropIf (· == p) else m.firstOut }

/-- The version after a transition into `new` (R17). -/
def versionAfter (new : PointState) (v : Version) : Version :=
  if new = .raised then v + 1 else v

/-- In local publication mode a state change discards the point's snapshot and is published at once (R93). -/
def publishChange (i : PointIndex) (s : State) : State :=
  if localMode s then
    publish i (pairOf s.points[i]) { s with points := s.points.set i { s.points[i] with snapshot := none } }
  else s

/-- A state change of own point `i` to `new`, with all that it hands on (R22). -/
def stateChange (i : PointIndex) (new : PointState) (s : State) : State :=
  let r := s.points[i]
  publishChange i
    { s with
      points := s.points.set i { r with state := new, version := versionAfter new r.version }
      mirror := mirrorAtChange { owner := ownNumber s, index := i } new s.mirror
      list := append i s.list }

/-- Where a condition event moves a point (Tables 12 and 15); `none` where it does not arise. -/
def conditionMove (mode : PointMode) (event : Condition) (state : PointState) : Option PointState :=
  match mode, event, state with
  | .locking, .abnormal, .quiet => some .raised
  | .locking, .abnormal, .lapsed => some .raised
  | .locking, .abnormal, .cleared => some .raised
  | .locking, .normal, .raised => some .lapsed
  | .locking, .normal, .held => some .cleared
  | .following, .abnormal, .quiet => some .raised
  | .following, .normal, .raised => some .quiet
  | .following, .normal, .held => some .quiet
  | _, _, _ => none

/-- Where an acknowledge of equal version moves a point (Tables 13 and 16). -/
def acknowledgeMove (mode : PointMode) (state : PointState) : Option PointState :=
  match mode, state with
  | _, .raised => some .held
  | .locking, .lapsed => some .cleared
  | _, _ => none

/-- Where a reset claim of equal version moves a point (Tables 14 and 16). -/
def resetMove (mode : PointMode) (state : PointState) : Option PointState :=
  match mode, state with
  | .locking, .cleared => some .quiet
  | _, _ => none

/-- Make the move, if there is one; a claim that moves nothing hands nothing on (R11). -/
def applyMove (i : PointIndex) (move : Option PointState) (s : State) : State :=
  match move with
  | some new => stateChange i new s
  | none => s

/-- A condition event on own point `i` (R12, R15): the condition is the record's own field (R8). -/
def conditionEvent (i : PointIndex) (event : Condition) (s : State) : State :=
  let r := s.points[i]
  applyMove i (conditionMove r.mode event r.state) { s with points := s.points.set i { r with condition := event } }

/-- A claim on own point `i` that carries a version: ignored by a disabled point (R10) and when stale (R18). -/
def versionedClaim (moveOf : PointMode → PointState → Option PointState) (i : PointIndex) (v : Version) (s : State) :
    State :=
  let r := s.points[i]
  if r.enabled ∧ v = r.version then applyMove i (moveOf r.mode r.state) s else s

/-- An acknowledge with version `v` on own point `i` (R13, R16). -/
def acknowledge (i : PointIndex) (v : Version) (s : State) : State := versionedClaim acknowledgeMove i v s

/-- A reset claim with version `v` on own point `i` (R14, R16). -/
def resetClaim (i : PointIndex) (v : Version) (s : State) : State := versionedClaim resetMove i v s

/-! ### Remote rows (R99 to R107, R109) -/

/-- Replace every row of station `p`. -/
def setRows (p : StationNo) (f : PointIndex → MirrorRow → MirrorRow) (m : MirrorTable) : MirrorTable :=
  { m with remote := m.remote.set p (Vector.ofFn fun i => f i m.remote[p][i]) }

/-- The horn flag of a remote row at an entry (Table 55). -/
def hornAfterEntry (newRaise : Bool) (state : PointState) (old : Bool) : Bool :=
  if unacked state then newRaise || old else false

/-- The three register steps of an entry (R101): group change, empty, take or adopt. -/
def firstOutAfterEntry (p : PointRef) (oldGroup : FirstOutGroup) (newRaise : Bool) (e : AnnounceEntry) (f : FirstOut) :
    FirstOut :=
  let f := if oldGroup = e.group then f else f.dropAt oldGroup p
  if e.state = .quiet then f.dropAt e.group p
  else if newRaise || e.mark then f.take e.group p
  else f

/-- One ANNOUNCE entry from peer `p` (R99). -/
def takeEntry (p : StationNo) (m : MirrorTable) (e : AnnounceEntry) : MirrorTable :=
  let row := m.remote[p][e.index]
  let pair : PointPair := { state := e.state, version := e.version }
  let newRaise := isNewRaise (row.content.map (·.version)) pair
  let m' := setRows p
    (fun i old =>
      if i = e.index then
        { content := some pair, group := e.group, stale := false, horn := hornAfterEntry newRaise e.state row.horn }
      else old) m
  { m' with firstOut := firstOutAfterEntry { owner := p, index := e.index } row.group newRaise e m.firstOut }

/-- Rows of `p` whose mask value is no become VACANT, and registers that hold their points empty (R104). -/
def vacateMasked (p : StationNo) (enabled : Mask) (m : MirrorTable) : MirrorTable :=
  { setRows p (fun i row => if enabled[i] then row else .vacant) m with
    firstOut := m.firstOut.dropIf fun q => q.owner == p && !enabled[q.index] }

/-- Every row of `p` becomes VACANT, and registers that hold a point of `p` empty (R105). -/
def vacateAll (p : StationNo) (m : MirrorTable) : MirrorTable :=
  { setRows p (fun _ _ => .vacant) m with firstOut := m.firstOut.dropIf fun q => q.owner == p }

/-- Every row of `p` that is not VACANT becomes stale (R106). -/
def markStale (p : StationNo) (m : MirrorTable) : MirrorTable :=
  setRows p (fun _ row => { row with stale := row.stale || row.content.isSome }) m

/-- Every stale row of `p` loses its stale mark (R107). -/
def clearStale (p : StationNo) (m : MirrorTable) : MirrorTable :=
  setRows p (fun _ row => { row with stale := false }) m

/-- A silence publication: every horn flag clears (R109). -/
def silencePublication (s : State) : State :=
  { s with
    mirror :=
      { s.mirror with
        remote := Vector.ofFn fun p => Vector.ofFn fun i => { s.mirror.remote[p][i] with horn := false }
        ownHorn := Vector.replicate 16 false } }

/-! ### The Request Queue (R122 to R127) -/

/-- The target that a request names; a SILENCE names none. -/
def targetOf : Request → Option StationNo
  | .ackReq t _ => some t
  | .resetReq t _ => some t
  | .silence => none
  | .refreshReq t => some t

/-- The frame kind that a request is sent as. -/
def requestKind : Request → FrameKind
  | .ackReq _ _ => .ackReq
  | .resetReq _ _ => .resetReq
  | .silence => .silence
  | .refreshReq _ => .refreshReq

/-- The two requests are of the same kind and target (R122). -/
def sameKey (a b : Request) : Bool :=
  requestKind a == requestKind b && targetOf a == targetOf b

/-- A merge into this entry, if it is of the same kind and target (R123). -/
def mergeInto (r : Request) (e : RequestEntry) : RequestEntry :=
  if sameKey e.request r then { e with request := r, merged := e.merged || e.inFlight } else e

/-- An offer to the queue: merged, appended, or refused (R123, R124). -/
def offer (q : RequestQueue) (r : Request) : RequestQueue :=
  if q.entries.any fun e => sameKey e.request r then { q with entries := q.entries.map (mergeInto r) }
  else if q.entries.length < 16 then
    { q with entries := q.entries ++ [{ request := r, inFlight := false, merged := false }] }
  else { q with refused := true }

/-- The offers of one press of KACK, KRST or KSIL, in order: at its end REQUEST REFUSED is set exactly if one of them was
refused (R124). -/
def pressOffers (rs : List Request) (q : RequestQueue) : RequestQueue :=
  rs.foldl offer { q with refused := false }

/-- Remove every entry whose target is `p` (R127). -/
def removeTarget (p : StationNo) (q : RequestQueue) : RequestQueue :=
  { q with entries := q.entries.filter fun e => targetOf e.request != some p }

/-! ### The horn (R153) -/

/-- A tone period in progress is to be cut at the next tick exactly if an event leaves the sounding condition false: of two
events between ticks, in either order, the state that they leave decides (R153, log entry 19). -/
def noteHorn (s : State) : State :=
  { s with panel := { s.panel with hornCut := s.panel.hornPeriod.isSome && !sounding s } }

end Sys2Proof.Machine
end

