-- ==== Sys2Proof/Machine/Group.lean ====
section
/-! DEFINITION. The operations that several commands share on the own membership state and the Presence Table
(Chapter 4). -/

namespace Sys2Proof.Machine

/-- The presence timer stopped at 0 and PRESENCE pending false (Table 35). -/
def stopPresence (s : State) : State :=
  { s with access := { s.access with presenceTimer := .stopped, presencePending := false } }

/-- The presence timer started from 0 and PRESENCE pending false (Table 35). -/
def startPresence (s : State) : State :=
  { s with access := { s.access with presenceTimer := .started, presencePending := false } }

/-! ### Supply warning and departure (R66 to R69) -/

/-- Entry to WARNING from LISTEN, GROUP or SOLO (R66). -/
def enterWarning (s : State) : State :=
  catchUpFrom s
    { s with
      member :=
        { s.member with
          own := .warning, departPending := true, departFailures := 0, listenTimer := .stopped,
          returnState := some (if s.member.own = .listen then .listen else .group) } }

/-- A supply-warning event at the Membership Controller (Table 87). -/
def supplyWarned (s : State) : State :=
  match s.member.own with
  | .listen => enterWarning s
  | .group => enterWarning s
  | .solo => enterWarning s
  | .warning => { s with member := { s.member with heldRecovery := false } }
  | .loading => s
  | .departed => s
  | .duplicate => s

/-- Entry to LISTEN (R61): a new listen window, and a supply-warning event at once if SUPPLY WARNING is set. -/
def enterListen (s : State) : State :=
  let s := stopPresence
    { s with
      member :=
        { s.member with
          own := .listen, listenTimer := .started, helloQueued := false, departPending := false, heldRecovery := false,
          returnState := none } }
  if s.startup.supplyWarning then supplyWarned s else s

/-- The DEPART is withdrawn and the station leaves WARNING for its return state (R68). -/
def leaveWarning (s : State) : State :=
  match s.member.returnState with
  | some .listen => enterListen s
  | _ =>
    { s with
      member :=
        { s.member with own := presenceRule s, departPending := false, heldRecovery := false, returnState := none } }

/-- Entry to DEPARTED (R67, R69). -/
def enterDeparted (s : State) : State :=
  stopPresence
    { s with
      member :=
        { s.member with
          own := .departed, helloQueued := false, departPending := false, heldRecovery := false, returnState := none } }

/-- An attempt to send a DEPART is in progress (R68). -/
def departInFlight (s : State) : Bool :=
  match s.access.attempt with
  | some a => a.frame.body == .depart
  | none => false

/-- A supply-recovery event at the Membership Controller (Table 87). -/
def supplyRecovered (s : State) : State :=
  match s.member.own with
  | .warning =>
    if departInFlight s then { s with member := { s.member with heldRecovery := true } } else leaveWarning s
  | .departed => enterListen s
  | .loading => s
  | .listen => s
  | .group => s
  | .solo => s
  | .duplicate => s

/-- Entry to DUPLICATE from any state but LOADING (R70). -/
def enterDuplicate (s : State) : State :=
  if s.member.own = .duplicate ∨ s.member.own = .loading then s
  else
    catchUpFrom s (stopPresence
      { s with
        member :=
          { s.member with
            own := .duplicate, listenTimer := .stopped, helloQueued := false, departPending := false,
            heldRecovery := false, returnState := none } })

/-! ### The Presence Table (R72 to R80) -/

/-- GROUP and SOLO follow the Presence Table (R65). -/
def followPresence (s : State) : State :=
  if s.member.own = .group ∨ s.member.own = .solo then
    catchUpFrom s { s with member := { s.member with own := presenceRule s } }
  else s

/-- The hand-ons of a change of peer entry `p` to PRESENT (Table 46). -/
def becamePresent (p : StationNo) (s : State) : State :=
  followPresence { s with mirror := clearStale p s.mirror }

/-- The hand-ons of a change of peer entry `p` to LOST or DEPARTED (Table 46). -/
def lostPresence (p : StationNo) (s : State) : State :=
  followPresence { s with mirror := markStale p s.mirror, queue := removeTarget p s.queue }

/-- A valid frame asks for a REFRESH-REQ to its sender (Table 45); `e` is the entry before the frame. -/
def wantsRefresh (e : PeerEntry) (kind : FrameKind) (sequence : SeqNo) : Bool :=
  if kind = .depart then false
  else if e.state = .present then e.lastSequence.map (· + 1) != some sequence
  else kind != .hello

/-- The entry of a sender after its valid frame (R73, R74, R77, R80). -/
def entryAfter (kind : FrameKind) (h : Header) : PeerEntry :=
  { state := if kind = .depart then .departed else .present, lastSequence := some h.sequence, flags := h.status,
    silence := if kind = .depart then .stopped else .started }

/-- The Membership Controller takes a valid frame of this kind from a peer (R73, R74, R77, R79). -/
def peerHeard (h : Header) (kind : FrameKind) (s : State) : State :=
  let p := h.sender
  let e := s.peers[p]
  let e' := entryAfter kind h
  let s := { s with peers := s.peers.set p e' }
  let s :=
    if e.state = e'.state then s
    else if e'.state = .present then becamePresent p s
    else lostPresence p s
  if wantsRefresh e kind h.sequence then { s with queue := offer s.queue (.refreshReq p) } else s

end Sys2Proof.Machine
end

