-- ==== Sys2Proof/Machine/Line.lean ====
section
/-! DEFINITION. The meanings of the line and receiver events: LINE_BUSY, LINE_QUIET, FIRST_HIGH_SAMPLE, SPIKE,
UNFRAMED_CARRIER, START_OF_FRAME, DAMAGED_FRAME and JAM_EVENT (Chapter 2). Each brings the half-bits decided up to it: those
that the event itself tells, and else those on LRX (log entry 3). An event that the rules do not let arise in the state at
hand is not taken and leaves the state as it is (log entry 5). -/

namespace Sys2Proof.Machine

/-! ### Decided half-bits (R27, R28, R38) -/

/-- The quiet count after a half on a BUSY line (R28), but that the step to 24 is LINE_QUIET's own. -/
def quietHeld (count : Fin 25) (carrier : Bool) : Fin 25 :=
  if quietStep count carrier = 24 then count else quietStep count carrier

/-- The jam count after a BT on a BUSY line (R38), but that the step to 2048 is JAM_EVENT's own. -/
def jamHeld (count : Fin 2049) : Fin 2049 :=
  if (jamStep count).2 then count else (jamStep count).1

/-- One more half is decided. On a BUSY line both counts take it, the jam count where the half ends a BT; on a QUIET line a
no-carrier half changes nothing, and a carrier half is LINE_BUSY (R28, R38). -/
def LineInterface.hear (l : LineInterface) (carrier : Bool) : LineInterface :=
  if l.status = .quiet then { l with decided := l.decided + 1 }
  else
    { l with
      decided := l.decided + 1
      quietCount := quietHeld l.quietCount carrier
      jamCount := if (l.decided + 1) % 2 = 0 then jamHeld l.jamCount else l.jamCount }

/-- The halves since the windows were aligned are decided up to the end of these; those decided already are not decided
again. A window ends there, and DESIGN CHOICE: the next begins at the last tick, because the bit times have no fixed relation to
the ticks (Section 8.1; log entry 32). -/
def LineInterface.hearUpTo (l : LineInterface) (halves : List Bool) : LineInterface :=
  { (halves.drop l.decided).foldl LineInterface.hear l with windowPart := 0 }

/-- The half decided last was a carrier half, though it was heard as one without carrier: on a BUSY line no half without
carrier stands since (R28). -/
def LineInterface.putRight (l : LineInterface) : LineInterface :=
  if l.status = .quiet then l else { l with quietCount := 0 }

/-- The next `n` halves on LRX, decided by majority (R27); nothing on LRX is no carrier. -/
def halvesOn (pins : InputPins) (n : Nat) : List Bool :=
  (pins.lrx.take n).map decideHalf ++ List.replicate (n - pins.lrx.length) false

/-- The next `n` halves on LRX are decided. A window ends there, and the next begins at the last tick (log entry 32). -/
def hearPins (n : Nat) (s : State) : State :=
  { s with
    line := { (halvesOn s.pins n).foldl LineInterface.hear s.line with windowPart := 0 }
    pins := { s.pins with lrx := s.pins.lrx.drop n } }

/-- The receiver enters this state (R29). -/
def toReceiver (receiver : RxState) (s : State) : State :=
  { s with line := { s.line with receiver := receiver } }

/-- The windows are aligned afresh, at the last tick (log entry 32), and the receiver is in this state (R27, R29). -/
def LineInterface.align (l : LineInterface) (origin : WindowOrigin) (receiver : RxState) : LineInterface :=
  { l with receiver := receiver, windows := origin, decided := 0, windowPart := 0 }

/-! ### The commands -/

/-- LINE_BUSY (R28): the first carrier half on a QUIET line, met in MARK or during an own attempt. It ends the ladder
(R43) and the wait after an unheard attempt (R42). DESIGN CHOICE, unsafe: where the half ends an own attempt too (half 2 after a
collision in half 1, R51), the rules give no order, and the model takes LINE_BUSY only before ATTEMPT_FAILURE; after it the
receiver is IDLE, the event is not taken and the line stays QUIET (log entry 30). The next window begins at the last tick (log
entry 32). DESIGN CHOICE, unsafe: where the half ends at the start of an own slot, the rules give no order either; behind the
SLOT_START that begins the attempt, LINE_BUSY is taken as half 1 of that attempt, which is then heard (log entry 33). -/
def execLineBusy (s : State) : Host.Outcome State Fault Refusal :=
  if s.line.status = .quiet ∧ (s.line.receiver = .mark ∨ s.line.receiver = .transmit) then
    .next
      { s with
        line := { s.line with status := .busy, quietCount := 0, decided := s.line.decided + 1, windowPart := 0 }
        access :=
          { s.access with
            ladder := none, unheardWait := false,
            attempt := s.access.attempt.map fun a => { a with heard := true } } }
  else .next s

/-- A ladder at its start (R42). -/
def ladderStart : Ladder := { rep := 0, nextSlot := 0 }

/-- LINE_QUIET (R28): the 24th no-carrier half. The jam count clears (R38), the receiver leaves WAIT (R29), a ladder starts
(R42). -/
def execLineQuiet (s : State) : Host.Outcome State Fault Refusal :=
  if s.line.status = .busy ∧ s.line.receiver = .wait then
    .next
      { s with
        line := { s.line with status := .quiet, quietCount := 24, jamCount := 0, receiver := .idle }
        access := { s.access with ladder := some ladderStart } }
  else .next s

/-- FIRST_HIGH_SAMPLE (R29): IDLE to MARK, and the windows realigned to the sample (R27). -/
def execFirstHighSample (s : State) : Host.Outcome State Fault Refusal :=
  if s.line.receiver = .idle then .next { s with line := s.line.align .highSample .mark }
  else .next s

/-- SPIKE (R30): half 1 is a no-carrier half, so the line has stayed QUIET, where the half changes no count (R28). -/
def execSpike (s : State) : Host.Outcome State Fault Refusal :=
  if s.line.receiver = .mark ∧ s.line.status = .quiet then .next (toReceiver .idle s) else .next s

/-- How many halves after half 1 MARK decides before LRX departs from the start mark: 1 to 7 (R30). -/
def halvesOfUnframed (pins : InputPins) : Nat :=
  (firstDifference (startMark.drop 1) (halvesOn pins 7)).getD 7

/-- UNFRAMED_CARRIER (R30): half 1 was carrier, so the line is BUSY, and one of halves 2 to 8 departs from the start
mark. -/
def execUnframedCarrier (s : State) : Host.Outcome State Fault Refusal :=
  if s.line.receiver = .mark ∧ s.line.status = .busy then
    .next (toReceiver .wait (hearPins (halvesOfUnframed s.pins) s))
  else .next s

/-- START_OF_FRAME (R30): halves 2 to 8 of the start mark are heard, and the elapsed count starts from 0 (R142). -/
def execStartOfFrame (s : State) : Host.Outcome State Fault Refusal :=
  if s.line.receiver = .mark ∧ s.line.status = .busy then
    .next
      { s with
        line := { (s.line.hearUpTo startMark) with receiver := .frame }
        time := { s.time with elapsed := some 0 } }
  else .next s

/-- The bits of the longest frame after its start mark (Table 25). -/
def longestFrame : Nat := 341

/-- How many halves FRAME decides on LRX before the receiver delivers an event (R31, R35, R37). -/
def halvesOfFrame (pins : InputPins) : Nat :=
  2 * (1 + ((List.range longestFrame).find? fun k => receiveHalves (halvesOn pins (2 * (1 + k))) != .unfinished).getD 0)

/-- What a damaged frame does once its halves are heard (R37): rotation 0, elapsed count absent, WAIT. -/
def frameDamaged (s : State) : State :=
  toReceiver .wait
    { s with access := { s.access with rotation := 0 }, time := { s.time with elapsed := none } }

/-- DAMAGED_FRAME (R37). -/
def execDamagedFrame (s : State) : Host.Outcome State Fault Refusal :=
  if s.line.receiver = .frame then .next (frameDamaged (hearPins (halvesOfFrame s.pins) s)) else .next s

/-- JAM_EVENT (R38): the jam count reaches 2048 on a BUSY line, once until the next QUIET, and sets LINE FAULT (R58). It
does not arise during an own attempt (R50). -/
def execJamEvent (s : State) : Host.Outcome State Fault Refusal :=
  if s.line.status = .busy ∧ s.line.receiver ≠ .off ∧ s.line.jamCount ≠ 2048 ∧ s.access.attempt = none then
    .next (catchUpFrom s
      { s with line := { s.line with jamCount := 2048 }, access := { s.access with lineFault := true } })
  else .next s

end Sys2Proof.Machine
end

