-- ==== Sys2Proof/Machine/Access.lean ====
section
/-! DEFINITION. The meanings of the ladder and attempt events: LADDER_REPEAT, LADDER_START_AFTER_UNHEARD_ATTEMPT,
SLOT_START, OWN_START_MARK_END, COLLISION, ATTEMPT_SUCCESS, ATTEMPT_FAILURE and PRESENCE_TIMER_EXPIRY (Chapters 3 and
5). -/

namespace Sys2Proof.Machine

/-! ### The ladder (R41, R42) -/

/-- LADDER_REPEAT (R42). -/
def execLadderRepeat (s : State) : Host.Outcome State Fault Refusal :=
  match s.access.ladder with
  | some l =>
    if s.line.status = .quiet ∧ s.access.attempt = none then
      .next { s with access := { s.access with ladder := some { rep := l.rep + 1, nextSlot := 0 } } }
    else .next s
  | none => .next s

/-- LADDER_START_AFTER_UNHEARD_ATTEMPT (R42): 12 BT after an own attempt during which the line did not become BUSY. -/
def execLadderStartAfterUnheardAttempt (s : State) : Host.Outcome State Fault Refusal :=
  if s.access.unheardWait ∧ s.line.status = .quiet ∧ s.access.attempt = none then
    .next { s with access := { s.access with ladder := some ladderStart, unheardWait := false } }
  else .next s

/-- The own rank (R41). -/
def rank (s : State) : Fin 16 := ownNumber s - s.access.rotation

/-- The number of the own slot of this class (R41). -/
def slotNumber (cls : FrameClass) (s : State) : Nat :=
  match cls with
  | .urgent => (rank s).val
  | .routine => 16 + (rank s).val

/-! ### The choice and the build (R47, R48, R86 to R88) -/

/-- The items of Table 34. -/
inductive Choice where
  | depart
  | announce
  | request (r : Request)
  | hello
  | presence
  deriving DecidableEq, Repr

/-- The choice (R47): the first item of Table 34 that is present. -/
def choice (s : State) : Option Choice :=
  if s.member.departPending then some .depart
  else if s.list ≠ [] then some .announce
  else match s.queue.entries with
    | e :: _ => some (.request e.request)
    | [] => if s.member.helloQueued then some .hello else if s.access.presencePending then some .presence else none

/-- The class of a frame kind (Table 33). -/
def kindClass : FrameKind → FrameClass
  | .depart => .urgent
  | .announce => .urgent
  | .ackReq => .urgent
  | .resetReq => .urgent
  | .silence => .urgent
  | .refreshReq => .routine
  | .hello => .routine
  | .presence => .routine

/-- The kind of the frame that a choice gives (Table 34). -/
def choiceKind : Choice → FrameKind
  | .depart => .depart
  | .announce => .announce
  | .request r => requestKind r
  | .hello => .hello
  | .presence => .presence

/-- The enabled mask of the own records (R48). -/
def enabledMask (s : State) : Mask :=
  BitVec.ofNat 16 (ofBits ((List.finRange 16).reverse.map fun i => s.points[i].enabled))

/-- The ANNOUNCE entry of a listed point (R86), with its first-out mark (R87). -/
def entryFor (s : State) (i : PointIndex) : AnnounceEntry :=
  let r := s.points[i]
  { index := i, state := r.state, group := r.group,
    mark := s.mirror.firstOut.get r.group == some { owner := ownNumber s, index := i },
    version := r.version }

/-- The body of the chosen frame (R48). -/
def bodyFor (c : Choice) (s : State) : Body :=
  match c with
  | .depart => .depart
  | .announce => .announce (s.list.map (entryFor s))
  | .request (.ackReq t ps) => .ackReq t ps
  | .request (.resetReq t ps) => .resetReq t ps
  | .request .silence => .silence
  | .request (.refreshReq t) => .refreshReq t
  | .hello => .hello (enabledMask s)
  | .presence => .presence (enabledMask s)

/-- The frame built (R48); its phase fields wait for the end of the start mark (R139). -/
def frameFor (c : Choice) (s : State) : Frame :=
  { header :=
      { sender := ownNumber s, sequence := s.access.sequence, phaseStep := 0, phaseFine := 0, status := statusFlags s },
    body := bodyFor c s }

/-- The snapshots written at the build of an ANNOUNCE (R88). -/
def takeSnapshots (s : State) : State :=
  { s with
    points := Vector.ofFn fun i =>
      if i ∈ s.list then { s.points[i] with snapshot := some (pairOf s.points[i]) } else s.points[i] }

/-- The head of the queue goes in flight (R125). -/
def markHeadInFlight (q : RequestQueue) : RequestQueue :=
  match q.entries with
  | e :: rest => { q with entries := { e with inFlight := true, merged := false } :: rest }
  | [] => q

/-- The marks of the build (R48): snapshots for an ANNOUNCE, the in-flight mark for a request. -/
def markBuild (c : Choice) (s : State) : State :=
  match c with
  | .announce => takeSnapshots s
  | .request _ => { s with queue := markHeadInFlight s.queue }
  | .depart => s
  | .hello => s
  | .presence => s

/-- The start of an attempt with this choice (R50). -/
def beginAttempt (c : Choice) (s : State) : State :=
  let a : Attempt := { frame := frameFor c s, phaseSampled := false, heard := false, collision := none }
  let s := markBuild c s
  { s with
    line := s.line.align .ownAttempt .transmit
    access := { s.access with ladder := none, attempt := some a } }

/-- The station takes its slot of class `cls` (R46): an urgent slot carries urgent frames only. -/
def takeSlot (cls : FrameClass) (s : State) : State :=
  match choice s with
  | some c => if cls = .routine ∨ kindClass (choiceKind c) = .urgent then beginAttempt c s else s
  | none => s

/-- SLOT_START (R46): a slot begins once in a run of the ladder; the permission is tested at its start (R44). -/
def execSlotStart (cls : FrameClass) (s : State) : Host.Outcome State Fault Refusal :=
  match s.access.ladder with
  | some l =>
    if l.nextSlot ≤ slotNumber cls s then
      let s := { s with access := { s.access with ladder := some { l with nextSlot := slotNumber cls s + 1 } } }
      if mayTransmit s then .next (takeSlot cls s) else .next s
    else .next s
  | none => .next s

/-! ### The attempt (R50, R51, R139) -/

/-- The wheel's step (R136). -/
def wheelStep (w : Fin 32768) : Fin 16 := Fin.ofNat 16 (w.val / 2048)

/-- The fine field of the wheel's position (R139). -/
def wheelFine (w : Fin 32768) : BitVec 8 := BitVec.ofNat 8 (w.val % 2048 / 8)

/-- The frame with the wheel sampled into its phase fields (R139). -/
def withPhase (w : Fin 32768) (f : Frame) : Frame :=
  { f with header := { f.header with phaseStep := wheelStep w, phaseFine := wheelFine w } }

/-- OWN_START_MARK_END (R139): once in an attempt, and not after a collision that came before it. A collision in the last half
of the start mark falls at this very moment (R51), and may be taken first; the half is then decided already. -/
def execOwnStartMarkEnd (s : State) : Host.Outcome State Fault Refusal :=
  match s.access.attempt with
  | some a =>
    if a.phaseSampled = false ∧ (a.collision = none ∨ a.collision = some startMark.length) then
      .next
        { s with
          line := s.line.hearUpTo startMark
          access :=
            { s.access with attempt := some { a with frame := withPhase s.time.wheel a.frame, phaseSampled := true } } }
    else .next s
  | none => .next s

/-- The halves of a transmission up to the one before half `h`, and half `h` as it was not sent. -/
def heardToCollision (f : Frame) (h : Nat) : List Bool :=
  (frameHalves f).take (h - 1) ++ (frameHalves f)[h - 1]?.toList.map not

/-- OWN_START_MARK_END has been taken at the end of this half, the last of the start mark, at which a collision may be found
too (R51, R139). -/
def endsOwnMark (a : Attempt) (half : Nat) (s : State) : Bool :=
  a.phaseSampled && half == startMark.length && s.line.decided == half

/-- COLLISION (R51): found once, at the end of a half of the transmission: one that was not decided before, or the last half of
the start mark at whose end the phase has just been sampled. The halves before it are heard as they were sent, and this one is
not. -/
def execCollision (half : Nat) (s : State) : Host.Outcome State Fault Refusal :=
  match s.access.attempt with
  | some a =>
    if a.collision = none ∧ (s.line.decided < half ∨ endsOwnMark a half s) ∧ half ≤ 2 * frameLength a.frame.body then
      .next
        { s with
          line := if endsOwnMark a half s then s.line.putRight else s.line.hearUpTo (heardToCollision a.frame half)
          access := { s.access with attempt := some { a with collision := some half } } }
    else .next s
  | none => .next s

/-! ### Success (R52, R54, R89, R126) -/

/-- The snapshot rule on one included point (R89). -/
def settlePoint (s : State) (i : PointIndex) : State :=
  match s.points[i].snapshot with
  | none => s
  | some pair =>
    let s := publish i pair s
    { s with
      points := s.points.set i { s.points[i] with snapshot := none }
      list := if pairOf s.points[i] = pair then s.list.filter (· != i) else s.list }

/-- The head's outcome at a success (R126). -/
def requestSucceeded (q : RequestQueue) : RequestQueue :=
  match q.entries with
  | e :: rest =>
    if e.inFlight then
      if e.merged then { q with entries := { e with inFlight := false, merged := false } :: rest }
      else { q with entries := rest }
    else q
  | [] => q

/-- The head's outcome at a failure (R126). -/
def requestFailed (q : RequestQueue) : RequestQueue :=
  match q.entries with
  | e :: rest => if e.inFlight then { q with entries := { e with inFlight := false, merged := false } :: rest } else q
  | [] => q

/-- A DEPART succeeded (R67): DEPARTED, and on to LISTEN if a recovery is held (R68). -/
def departSucceeded (s : State) : State :=
  if s.member.heldRecovery then enterListen (enterDeparted s) else enterDeparted s

/-- A HELLO succeeded (R64). -/
def helloSucceeded (s : State) : State :=
  fullRefresh { s with member := { s.member with helloQueued := false } }

/-- The report of a success to the block that provided the frame (Table 37). -/
def reportSuccess (b : Body) (s : State) : State :=
  match b with
  | .announce es => (es.map (·.index)).foldl settlePoint s
  | .ackReq _ _ => { s with queue := requestSucceeded s.queue }
  | .resetReq _ _ => { s with queue := requestSucceeded s.queue }
  | .refreshReq _ => { s with queue := requestSucceeded s.queue }
  | .silence => silencePublication { s with queue := requestSucceeded s.queue }
  | .hello _ => helloSucceeded s
  | .depart => departSucceeded s
  | .presence _ => s

/-- The catch-up at the end of an ANNOUNCE attempt after which local publication mode holds (R94). -/
def catchUpAfter (b : Body) (s : State) : State :=
  if bodyKind b = .announce ∧ localMode s then catchUp s else s

/-- The refresh asked for at the clearing of LINE FAULT (R59), after the outcome (R85). -/
def refreshIf (wasFault : Bool) (s : State) : State :=
  if wasFault then fullRefresh s else s

/-- The Access Controller's own steps at a success (R52), and the receiver to WAIT (R29). The whole frame is heard as it was
sent (R51). -/
def successSteps (f : Frame) (s : State) : State :=
  { s with
    line := { s.line.hearUpTo (frameHalves f) with receiver := .wait }
    access :=
      { s.access with
        attempt := none, sequence := s.access.sequence + 1, failedCount := 0, lineFault := false,
        rotation := ownNumber s + 1, presenceTimer := .started, presencePending := false } }

/-- ATTEMPT_SUCCESS (R52): the whole frame was sent and heard, so the line became BUSY and the phase was sampled. -/
def execAttemptSuccess (s : State) : Host.Outcome State Fault Refusal :=
  match s.access.attempt with
  | some a =>
    if a.collision = none ∧ a.phaseSampled ∧ a.heard then
      .next (noteHorn
        (catchUpAfter a.frame.body (refreshIf s.access.lineFault (reportSuccess a.frame.body (successSteps a.frame s)))))
    else .next s
  | none => .next s

/-! ### Failure (R53, R57, R58, R90) -/

/-- Every snapshot is discarded (R90). -/
def discardSnapshots (s : State) : State :=
  { s with points := Vector.ofFn fun i => { s.points[i] with snapshot := none } }

/-- A DEPART failed (R67): withdrawn if a recovery is held (R68), else counted, up to four. -/
def departFailed (s : State) : State :=
  if s.member.heldRecovery then leaveWarning s
  else
    let n := s.member.departFailures.val + 1
    let s := { s with member := { s.member with departFailures := Fin.ofNat 5 (min n 4) } }
    if 4 ≤ n then enterDeparted s else s

/-- The report of a failure to the block that provided the frame (Table 37). -/
def reportFailure (b : Body) (s : State) : State :=
  match b with
  | .announce _ => discardSnapshots s
  | .ackReq _ _ => { s with queue := requestFailed s.queue }
  | .resetReq _ _ => { s with queue := requestFailed s.queue }
  | .refreshReq _ => { s with queue := requestFailed s.queue }
  | .silence => { s with queue := requestFailed s.queue }
  | .depart => departFailed s
  | .hello _ => s
  | .presence _ => s

/-- The failed-attempt count after one more failure (R57). -/
def failedAgain (n : Fin 17) : Fin 17 := Fin.ofNat 17 (min (n.val + 1) 16)

/-- The halves still to be decided at a failure: the one after the collision, if the transmission has one and it is not
decided yet (R51). -/
def halvesOfFailure (a : Attempt) (decided : Nat) : Nat :=
  match a.collision with
  | some h => if decided ≤ h ∧ h < 2 * frameLength a.frame.body then 1 else 0
  | none => 0

/-- The Access Controller's own steps at a failure (R53, R58), and the receiver to WAIT, or to IDLE if the line stayed
QUIET throughout (R29), when the wait of 12 BT for a ladder begins (R42). A LINE_BUSY of the attempt's last half comes before
the failure (log entry 30). -/
def failureSteps (a : Attempt) (s : State) : State :=
  toReceiver (if a.heard then .wait else .idle)
    (hearPins (halvesOfFailure a s.line.decided)
      { s with
        access :=
          { s.access with
            attempt := none, failedCount := failedAgain s.access.failedCount,
            lineFault := s.access.lineFault || s.access.failedCount == 15,
            rotation := 0, unheardWait := !a.heard } })

/-- The catch-up of a failure: at the end of an ANNOUNCE attempt after which local publication mode holds, or where the
failure makes that mode begin (R90, R94). -/
def catchUpFailed (before : State) (b : Body) (s : State) : State :=
  if localMode s && (bodyKind b == .announce || !localMode before) then catchUp s else s

/-- ATTEMPT_FAILURE (R53): it follows a collision (R51). -/
def execAttemptFailure (s : State) : Host.Outcome State Fault Refusal :=
  match s.access.attempt with
  | some a =>
    if a.collision ≠ none then
      .next (noteHorn (catchUpFailed s a.frame.body (reportFailure a.frame.body (failureSteps a s))))
    else .next s
  | none => .next s

/-! ### The presence timer (R49) -/

/-- PRESENCE_TIMER_EXPIRY (R49): the timer has reached P, and stops there. -/
def execPresenceTimerExpiry (s : State) : Host.Outcome State Fault Refusal :=
  if expired (presencePeriod s) s.access.presenceTimer then
    .next
      { s with
        access :=
          { s.access with
            presenceTimer := { running := false, ticks := presencePeriod s }, presencePending := true } }
  else .next s

end Sys2Proof.Machine
end

