-- ==== Sys2Proof/Machine/Operands.lean ====
section
/-! DEFINITION. How the pins are read: field inputs, polarity and debounce (R1 to R4, R115), and the straps (R160). -/

namespace Sys2Proof.Machine

/-- A field contact as read (Table 6). -/
inductive Reading where
  | openContact | closedContact
  deriving DecidableEq, Repr

/-- R1: a high pin reads OPEN, a low pin CLOSED. -/
def readingOf (level : Bool) : Reading :=
  if level then .openContact else .closedContact

/-- Table 7. -/
def sampleCondition (polarity : Polarity) (reading : Reading) : Condition :=
  match polarity, reading with
  | .abnormalWhenOpen, .openContact => .abnormal
  | .abnormalWhenOpen, .closedContact => .normal
  | .abnormalWhenClosed, .openContact => .normal
  | .abnormalWhenClosed, .closedContact => .abnormal

/-- Whether a point of class `cls` is sampled at an instant whose longest class is `longest` (R3). -/
def sampledAt (longest cls : DebounceClass) : Bool :=
  match longest, cls with
  | .c, _ => true
  | .b, .c => false
  | .b, _ => true
  | .a, .a => true
  | .a, _ => false

/-- The disagree count after one sample, and whether the sample is taken as a change (Table 9; R115 for a key). -/
def debounce (agrees : Bool) (count : Fin 4) : Fin 4 × Bool :=
  if agrees then (0, false) else if count = 3 then (0, true) else (count + 1, false)

/-- A key pin reads pressed at the low level (R115). -/
def keyReading (level : Bool) : Bool := !level

/-- One sample of a key: its debounce after it, and whether the key state changed. -/
def sampleKey (level : Bool) (key : KeyDebounce) : KeyDebounce × Bool :=
  let d := debounce (keyReading level == key.pressed) key.disagree
  ({ pressed := if d.2 then !key.pressed else key.pressed, disagree := d.1 }, d.2)

/-- The strap latch read from the pins: a high pin is 1, SN3 and LR1 are the most significant (R160, Table 83). -/
def readStraps (pins : StrapPins) : Straps :=
  { station := Fin.ofNat 16 (ofBits [pins.sn3, pins.sn2, pins.sn1, pins.sn0]),
    lineRate := Fin.ofNat 4 (ofBits [pins.lr1, pins.lr0]),
    cfgen := pins.cfgen }

end Sys2Proof.Machine
end

