-- ==== Sys2Proof/Machine/Inputs.lean ====
section
/-! DEFINITION. The meanings of FIELD_INPUT_SAMPLE and KEY_SAMPLE (Chapters 1 and 7). -/

namespace Sys2Proof.Machine

/-! ### Field inputs -/

/-- One sample of field input `i` at this pin level (R4). A disabled point, or one of a class that has no instant here, is
not sampled (R3, R6). -/
def samplePoint (longest : DebounceClass) (levels : Mask) (s : State) (i : PointIndex) : State :=
  let r := s.points[i]
  if r.enabled && sampledAt longest r.cls then
    let seen := sampleCondition r.polarity (readingOf levels[i])
    let d := debounce (seen == r.condition) s.disagree[i]
    let s := { s with disagree := s.disagree.set i d.1 }
    if d.2 then conditionEvent i seen s else s
  else s

/-- FIELD_INPUT_SAMPLE (R1 to R5): the points are taken in ascending index. Stopped during LOADING (R7). -/
def execFieldInputSample (longest : DebounceClass) (levels : Mask) (s : State) : Host.Outcome State Fault Refusal :=
  let s := { s with pins := { s.pins with fi := levels } }
  if loading s then .next s
  else .next (noteHorn ((List.finRange 16).foldl (samplePoint longest levels) s))

/-! ### Keys -/

/-- The request of kind `make` for peer `p`: a pair for each of its rows whose state `test` accepts; none if there is no
such row or `p` is not PRESENT (R118, R119). -/
def requestFor (make : StationNo → List ReqPair → Request) (test : PointState → Bool) (s : State) (p : StationNo) :
    Option Request :=
  let pairs := (List.finRange 16).filterMap fun i =>
    match (rowOf s p i).content with
    | some pair => if test pair.state then some { index := i, version := pair.version : ReqPair } else none
    | none => none
  if isPresent s p && !pairs.isEmpty then some (make p pairs) else none

/-- The requests of one press, in ascending target number (R118, R119). -/
def requestsOf (make : StationNo → List ReqPair → Request) (test : PointState → Bool) (s : State) : List Request :=
  (List.finRange 16).filterMap (requestFor make test s)

/-- A local claim on own point `i`: it carries the version that the point has when it is taken (R19). -/
def localClaim (claim : PointIndex → Version → State → State) (test : PointState → Bool) (s : State) (i : PointIndex) :
    State :=
  if s.points[i].enabled && test s.points[i].state then claim i s.points[i].version s else s

/-- CLEARED, the state on which KRST acts. -/
def isCleared : PointState → Bool
  | .cleared => true
  | _ => false

/-- A press of KACK (R117, R118). -/
def pressKack (s : State) : State :=
  let requests := requestsOf .ackReq unacked s
  let s := (List.finRange 16).foldl (localClaim acknowledge unacked) s
  { s with queue := pressOffers requests s.queue }

/-- A press of KRST (R119). -/
def pressKrst (s : State) : State :=
  let requests := requestsOf .resetReq isCleared s
  let s := (List.finRange 16).foldl (localClaim resetClaim isCleared) s
  { s with queue := pressOffers requests s.queue }

/-- A press of KSIL (R120). -/
def pressKsil (s : State) : State :=
  let s := { s with queue := pressOffers [.silence] s.queue }
  if localMode s then silencePublication s else s

/-- The samples of the four keys, and their changes in the order KACK, KRST, KSIL, KTST, each taken whole (R116). A
release has a function for KTST only (R115, R121). -/
def sampleKack (level : Bool) (s : State) : State :=
  let k := sampleKey level s.keys.kack
  let s := { s with keys := { s.keys with kack := k.1 } }
  if k.2 && k.1.pressed then pressKack s else s

/-- The sample of KRST (R116, R119). -/
def sampleKrst (level : Bool) (s : State) : State :=
  let k := sampleKey level s.keys.krst
  let s := { s with keys := { s.keys with krst := k.1 } }
  if k.2 && k.1.pressed then pressKrst s else s

/-- The sample of KSIL (R116, R120). -/
def sampleKsil (level : Bool) (s : State) : State :=
  let k := sampleKey level s.keys.ksil
  let s := { s with keys := { s.keys with ksil := k.1 } }
  if k.2 && k.1.pressed then pressKsil s else s

/-- The sample of KTST: TEST held is true from its press to its release (R121). -/
def sampleKtst (level : Bool) (s : State) : State :=
  let k := sampleKey level s.keys.ktst
  { s with keys := { s.keys with ktst := k.1, testHeld := if k.2 then k.1.pressed else s.keys.testHeld } }

/-- KEY_SAMPLE (R115, R116). Stopped during LOADING. -/
def execKeySample (levels : KeyPins) (s : State) : Host.Outcome State Fault Refusal :=
  let s := { s with pins := { s.pins with keys := levels } }
  if loading s then .next s
  else
    .next (noteHorn (sampleKtst levels.ktst (sampleKsil levels.ksil (sampleKrst levels.krst (sampleKack levels.kack s)))))

end Sys2Proof.Machine
end

