-- ==== Sys2Proof/Machine/Members.lean ====
section
/-! DEFINITION. The meanings of LISTEN_WINDOW_END, LOST_TIMER_EXPIRY, SUPPLY_WARNING_EVENT and SUPPLY_RECOVERY_EVENT
(Chapters 4 and 10). -/

namespace Sys2Proof.Machine

/-- LISTEN_WINDOW_END (R63): the window timer has reached 2P in LISTEN. HELLO queued, GROUP or SOLO by the presence rule,
and the presence timer started. -/
def execListenWindowEnd (s : State) : Host.Outcome State Fault Refusal :=
  if s.member.own = .listen ∧ expired (listenWindow s) s.member.listenTimer then
    .next (catchUpFrom s (startPresence
      { s with member := { s.member with own := presenceRule s, helloQueued := true, listenTimer := .stopped } }))
  else .next s

/-- LOST_TIMER_EXPIRY (R78): the silence time of a PRESENT entry has reached 3P. A valid frame taken first has started the
timer again, and the entry then stays PRESENT (R78, R144). -/
def execLostTimerExpiry (p : StationNo) (s : State) : Host.Outcome State Fault Refusal :=
  if isPresent s p ∧ expired (lostLength s) s.peers[p].silence then
    .next (lostPresence p { s with peers := s.peers.set p { s.peers[p] with state := .lost, silence := .stopped } })
  else .next s

/-- SUPPLY_WARNING_EVENT (R168, R66): the setting of the SUPPLY WARNING flag. -/
def execSupplyWarningEvent (s : State) : Host.Outcome State Fault Refusal :=
  if !inReset s && !s.startup.supplyWarning then
    .next (supplyWarned { s with startup := { s.startup with supplyWarning := true } })
  else .next s

/-- SUPPLY_RECOVERY_EVENT (R168, R68): the clearing of the SUPPLY WARNING flag. -/
def execSupplyRecoveryEvent (s : State) : Host.Outcome State Fault Refusal :=
  if !inReset s && s.startup.supplyWarning then
    .next (supplyRecovered { s with startup := { s.startup with supplyWarning := false } })
  else .next s

end Sys2Proof.Machine
end

