-- ==== Sys2Proof/Machine/Panel.lean ====
section
/-! DEFINITION. The Panel Driver (Chapter 9): display patterns, the cell map, drive levels, and the meanings of
COMMON_PERIOD_START and TONE_INSTANT. -/

namespace Sys2Proof.Machine

/-! ### Display patterns and the warble selection (R137, R138) -/

/-- The six display patterns (Table 68). -/
inductive Pattern where
  | off | steady | fast | slow | brokenFast | wink
  deriving DecidableEq, Repr

/-- Whether a pattern is on in a wheel step (Table 68). -/
def patternOn (p : Pattern) (step : Fin 16) : Bool :=
  match p with
  | .off => false
  | .steady => true
  | .fast => decide (step.val % 4 < 2)
  | .slow => decide (step.val < 8)
  | .brokenFast => decide (step.val % 4 < 2 ∧ step.val < 12)
  | .wink => decide (step.val < 2)

/-- The warble selection: HIGH exactly while FAST is on (R138). -/
def warble (step : Fin 16) : Tone := if patternOn .fast step then .high else .low

/-! ### Cells (R147 to R150) -/

/-- Some first-out register holds the point (R148). -/
def isFirstOut (s : State) (p : PointRef) : Bool :=
  s.mirror.firstOut.r1 == some p || s.mirror.firstOut.r2 == some p || s.mirror.firstOut.r3 == some p

/-- The pattern of a point cell (Table 75). -/
def pointPattern (row : MirrorRow) (firstOut : Bool) : Pattern :=
  match row.content with
  | none => .off
  | some pair =>
    match pair.state with
    | .quiet => .off
    | .raised => if row.stale then .wink else if firstOut then .brokenFast else .fast
    | .lapsed => if row.stale then .wink else if firstOut then .brokenFast else .fast
    | .held => if row.stale then .wink else if firstOut then .slow else .steady
    | .cleared => if row.stale then .wink else .slow

/-- Some flag is set (R149). -/
def anyFlag (f : StatusFlags) : Bool := f.configFault || f.supplyWarning || f.lineFault || f.solo

/-- The pattern of a presence icon (Table 76). -/
def presencePattern (s : State) (p : StationNo) : Pattern :=
  if p = ownNumber s then .steady
  else
    match s.peers[p].state with
    | .present => if anyFlag s.peers[p].flags then .slow else .steady
    | .lost => .fast
    | .departed => .wink
    | .absent => .off

/-- The condition of a local icon (Table 77). -/
def localIcon (s : State) (common : Fin 8) : Bool :=
  match common with
  | 0 => s.startup.configFault
  | 1 => s.access.lineFault
  | 2 => s.member.own == .duplicate
  | 3 => s.startup.supplyWarning
  | 4 => s.member.own == .solo
  | 5 => s.queue.refused
  | 6 => silencedCondition s
  | 7 => s.keys.testHeld

/-- The pattern assigned to the cell on this segment and common (Table 74). -/
def cellPattern (s : State) (seg : Fin 35) (common : Fin 8) : Pattern :=
  if seg.val < 32 then
    let n := 8 * seg.val + common.val
    let p : PointRef := { owner := Fin.ofNat 16 (n / 16), index := Fin.ofNat 16 (n % 16) }
    pointPattern (rowOf s p.owner p.index) (isFirstOut s p)
  else if seg.val = 32 then presencePattern s (Fin.ofNat 16 common.val)
  else if seg.val = 33 then presencePattern s (Fin.ofNat 16 (8 + common.val))
  else if localIcon s common then .steady
  else .off

/-- The value of a cell, reckoned now (R146). -/
def cellValue (s : State) (seg : Fin 35) (common : Fin 8) : Bool :=
  if loading s then false
  else if s.keys.testHeld then true
  else patternOn (cellPattern s seg common) (wheelStep s.time.wheel)

/-! ### Drive levels (R145) -/

/-- The polarity of an LCD frame: frames alternate, frame 0 is of polarity A (R145). -/
inductive FramePolarity where
  | a | b
  deriving DecidableEq, Repr

/-- The polarity of the present LCD frame (R145). -/
def lcdPolarity (s : State) : FramePolarity := if s.panel.lcdFrame % 2 = 0 then .a else .b

/-- A drive level, in quarters of VLCD above VSS (Table 73). -/
abbrev Level := Fin 5

/-- The level of common line `c` (Table 73); all at VSS while no frame runs (R146). -/
def comLevel (s : State) (c : Fin 8) : Level :=
  match s.panel.common with
  | none => 0
  | some sel =>
    match lcdPolarity s with
    | .a => if c = sel then 4 else 1
    | .b => if c = sel then 0 else 3

/-- The level of segment line `k` (Table 73); all at VSS while no frame runs (R146). -/
def segLevel (s : State) (k : Fin 35) : Level :=
  match s.panel.common with
  | none => 0
  | some _ =>
    if s.panel.cells[k] then (match lcdPolarity s with | .a => 0 | .b => 4) else 2

/-- COMMON_PERIOD_START (R145, R146): the next common is selected, a new frame beginning after common 7, and its 35 cells
are taken. No frame runs while reset is in force. -/
def execCommonPeriodStart (s : State) : Host.Outcome State Fault Refusal :=
  if inReset s then .next s
  else
    let next : Fin 8 × Nat :=
      match s.panel.common with
      | none => (0, s.panel.lcdFrame)
      | some c => (c + 1, if c = 7 then s.panel.lcdFrame + 1 else s.panel.lcdFrame)
    .next
      { s with
        panel :=
          { s.panel with common := some next.1, lcdFrame := next.2, cells := Vector.ofFn fun k => cellValue s k next.1 } }

/-! ### The horn (R153, R154) -/

/-- The tone in use (R154). -/
def toneInUse (s : State) : Tone :=
  match s.panel.tone with
  | .continuous => .high
  | .warble => warble (wheelStep s.time.wheel)

/-- What a tone period in progress is at a tone instant: a high period ends at every instant; a low period ends at an
instant of period 32, and is at its half otherwise (R154). -/
def periodAtInstant (at32 : ToneInstant) (t : TonePeriod) : Option TonePeriod :=
  match t.tone, at32 with
  | .low, .of16 => some { t with elapsed := 16 }
  | _, _ => none

/-- A tone may begin at this instant: an instant of its own period (R154). -/
def mayBegin (tone : Tone) (at32 : ToneInstant) : Bool :=
  match tone, at32 with
  | .low, .of16 => false
  | _, _ => true

/-- The tone period after a tone instant (R153, R154). -/
def hornAtInstant (at32 : ToneInstant) (s : State) : Option TonePeriod :=
  if !sounding s then none
  else
    match (if s.panel.hornCut then none else s.panel.hornPeriod.bind (periodAtInstant at32)) with
    | some t => some t
    | none => if mayBegin (toneInUse s) at32 then some { tone := toneInUse s, elapsed := 0 } else none

/-- TONE_INSTANT (R154). HORN is held low during LOADING (R152). -/
def execToneInstant (at32 : ToneInstant) (s : State) : Host.Outcome State Fault Refusal :=
  if loading s then .next s
  else .next { s with panel := { s.panel with hornPeriod := hornAtInstant at32 s, hornCut := false } }

end Sys2Proof.Machine
end

