-- ==== Sys2Proof/Machine/Receive.lean ====
section
/-! DEFINITION. The meanings of the valid-frame events, RECEIVE_PRESENCE to RECEIVE_OWN_NUMBER_FRAME: Table 27 is
`takeFrame`. -/

namespace Sys2Proof.Machine

/-! ### What each kind does beyond the presence entry -/

/-- The pairs of a request addressed to this station are claims, in frame order (R130). -/
def takePairs (claim : PointIndex → Version → State → State) (pairs : List ReqPair) (s : State) : State :=
  pairs.foldl (fun s p => claim p.index p.version s) s

/-- The blocks named in Table 27 beyond the first peer row take the frame. A request acts only if its target is the own
station number (R129). -/
def takeBody (sender : StationNo) (b : Body) (s : State) : State :=
  match b with
  | .presence m => { s with mirror := vacateMasked sender m s.mirror }
  | .hello m => fullRefresh { s with mirror := vacateAll sender (vacateMasked sender m s.mirror) }
  | .announce es => { s with mirror := es.foldl (takeEntry sender) s.mirror }
  | .ackReq t ps => if t = ownNumber s then takePairs acknowledge ps s else s
  | .resetReq t ps => if t = ownNumber s then takePairs resetClaim ps s else s
  | .refreshReq t => if t = ownNumber s then fullRefresh s else s
  | .silence => silencePublication s
  | .depart => s

/-! ### Phase (R139, R143) -/

/-- The carried phase of a frame (R139). -/
def carriedPhase (h : Header) : Nat := h.phaseStep.val * 2048 + h.phaseFine.toNat * 8

/-- The tick taken last came at the very moment at which a frame ends on the line (R144, log entry 29). -/
def frameMeetsTick (s : State) : Bool := s.pins.frameEnds.contains s.time.tickCount

/-- The elapsed count that an adoption adds to the carried phase (R143). A tick that came together with the frame, and was taken
before it, is overwritten (R144): the adoption does not add it. -/
def adoptedTicks (together : Bool) (n : Nat) : Nat := if together then n - 1 else n

/-- The wheel that an adoption sets (R143). -/
def adoptedWheel (together : Bool) (h : Header) (n : Nat) : Fin 32768 :=
  Fin.ofNat 32768 (carriedPhase h + adoptedTicks together n)

/-- Adoption (R143): if the sender is the reference, as it stands after the Presence Table, the wheel is set to the carried
phase plus the elapsed count, without a tick that R144 has overwritten (log entry 29). The elapsed count becomes absent (R142). -/
def adopt (h : Header) (s : State) : State :=
  match s.time.elapsed with
  | some n =>
    { s with
      time :=
        { s.time with
          wheel := if reference s = h.sender then adoptedWheel (frameMeetsTick s) h n else s.time.wheel
          elapsed := none } }
  | none => s

/-! ### A whole frame (R36) -/

/-- The halves of this frame are heard, up to its end. -/
def hearFrame (f : Frame) (s : State) : State :=
  { s with line := s.line.hearUpTo (frameHalves f) }

/-- The receiver has delivered a valid frame of this sender: WAIT (R29), and the rotation moves (R40). -/
def rotateTo (sender : StationNo) (s : State) : State :=
  toReceiver .wait { s with access := { s.access with rotation := sender + 1 } }

/-- A valid frame from a peer (Table 27). -/
def takePeerFrame (f : Frame) (s : State) : State :=
  noteHorn (adopt f.header
    (takeBody f.header.sender f.body (peerHeard f.header (bodyKind f.body) (rotateTo f.header.sender s))))

/-- A valid frame that bears the own number (R70): DUPLICATE, and the rotation. It reaches no other block. -/
def takeOwnNumberFrame (s : State) : State :=
  enterDuplicate (rotateTo (ownNumber s) s)

/-- The end of a frame on the line, once its halves are heard. It ends a frame only in FRAME (R29); a field out of range makes
it damaged (R33). -/
def takeFrame (f : Frame) (s : State) : State :=
  if s.line.receiver ≠ .frame then s
  else if !bodyInRange f.body then frameDamaged (hearFrame f s)
  else if f.header.sender = ownNumber s then takeOwnNumberFrame (hearFrame f s)
  else takePeerFrame f (hearFrame f s)

/-! ### The commands -/

/-- RECEIVE_PRESENCE (R73, R75, R104). -/
def execReceivePresence (h : Header) (enabled : Mask) (s : State) : Host.Outcome State Fault Refusal :=
  .next (takeFrame { header := h, body := .presence enabled } s)

/-- RECEIVE_HELLO (R73, R75, R76, R105). -/
def execReceiveHello (h : Header) (enabled : Mask) (s : State) : Host.Outcome State Fault Refusal :=
  .next (takeFrame { header := h, body := .hello enabled } s)

/-- RECEIVE_ANNOUNCE (R73, R99). -/
def execReceiveAnnounce (h : Header) (entries : List AnnounceEntry) (s : State) : Host.Outcome State Fault Refusal :=
  .next (takeFrame { header := h, body := .announce entries } s)

/-- RECEIVE_ACK_REQ (R73, R130). -/
def execReceiveAckReq (h : Header) (target : StationNo) (pairs : List ReqPair) (s : State) :
    Host.Outcome State Fault Refusal :=
  .next (takeFrame { header := h, body := .ackReq target pairs } s)

/-- RECEIVE_RESET_REQ (R73, R130). -/
def execReceiveResetReq (h : Header) (target : StationNo) (pairs : List ReqPair) (s : State) :
    Host.Outcome State Fault Refusal :=
  .next (takeFrame { header := h, body := .resetReq target pairs } s)

/-- RECEIVE_REFRESH_REQ (R73, R131). -/
def execReceiveRefreshReq (h : Header) (target : StationNo) (s : State) : Host.Outcome State Fault Refusal :=
  .next (takeFrame { header := h, body := .refreshReq target } s)

/-- RECEIVE_SILENCE (R73, R132). -/
def execReceiveSilence (h : Header) (s : State) : Host.Outcome State Fault Refusal :=
  .next (takeFrame { header := h, body := .silence } s)

/-- RECEIVE_DEPART (R77). -/
def execReceiveDepart (h : Header) (s : State) : Host.Outcome State Fault Refusal :=
  .next (takeFrame { header := h, body := .depart } s)

/-- The valid frame with the own number that LRX shows next, if it shows one. -/
def ownFrameOnLrx (s : State) : Option Frame :=
  match receiveHalves (halvesOn s.pins (halvesOfFrame s.pins)) with
  | .valid f => if f.header.sender = ownNumber s then some f else none
  | _ => none

/-- A free frame with the own number (log entry 28). One out of range stands for a SILENCE, so that it can be each frame that a
receiver finds valid, and no other. -/
def freeOwnFrame (s : State) : Frame :=
  let f := Config.freeFrame s.pins.untold
  { header := { f.header with sender := ownNumber s }, body := if bodyInRange f.body then f.body else .silence }

/-- The frame that RECEIVE_OWN_NUMBER_FRAME delivers: the one on LRX, or else a free one. -/
def ownNumberFrame (s : State) : Frame := (ownFrameOnLrx s).getD (freeOwnFrame s)

/-- That frame has passed: LRX goes on behind it, or one frame more is untold. -/
def passOwnNumberFrame (s : State) : State :=
  { s with
    pins :=
      if (ownFrameOnLrx s).isSome then { s.pins with lrx := s.pins.lrx.drop (halvesOfFrame s.pins) }
      else { s.pins with untold := s.pins.untold + 1 } }

/-- RECEIVE_OWN_NUMBER_FRAME (R70). -/
def execReceiveOwnNumberFrame (s : State) : Host.Outcome State Fault Refusal :=
  if s.line.receiver = .frame then .next (takeOwnNumberFrame (hearFrame (ownNumberFrame s) (passOwnNumberFrame s)))
  else .next s

end Sys2Proof.Machine
end

