-- ==== Sys2Proof/Machine/Image.lean ====
section
/-! DEFINITION. The configuration image (Table 84): its acceptance (R164) and the settings it gives (Table 85). The image
is the list of its 160 bits in the order read (R162). -/

namespace Sys2Proof.Machine

open Sys2Proof.Config

/-- Byte `k` of the image. -/
def imageByte (image : List Bool) (k : Nat) : Nat :=
  ofBits ((image.drop (8 * k)).take 8)

/-- The settings of the point whose image byte this is (Table 84). Class code 3 is refused before this is used. -/
def pointOfByte (n : Nat) : PointSettings :=
  { enabled := n.testBit 7,
    polarity := if n.testBit 6 then .abnormalWhenClosed else .abnormalWhenOpen,
    mode := if n.testBit 5 then .following else .locking,
    cls := if n.testBit 4 then .c else if n.testBit 3 then .b else .a,
    group := groupOfCode (n / 2 % 4) }

/-- The presence period of byte 1 (Table 84). -/
def periodOfCode (n : Nat) : PeriodCode :=
  match n with
  | 0 => .quarter
  | 1 => .half
  | 2 => .one
  | _ => .two

/-- The settings of an accepted image (Table 85). -/
def imageSettings (image : List Bool) : Settings :=
  { points := Vector.ofFn fun i => pointOfByte (imageByte image (2 + i.val)),
    period := periodOfCode (imageByte image 1 % 4),
    tone := if (imageByte image 1).testBit 2 then .warble else .continuous }

/-- A point's byte is in order: its class is not 3 and its bit 0 is 0 (R164). -/
def pointByteOk (n : Nat) : Bool :=
  decide (n / 8 % 4 ≠ 3) && !n.testBit 0

/-- R164: whether the image is accepted, `check` being the register formed over bytes 0 to 17. -/
def imageAccepted (image : List Bool) (check : CheckWord) : Bool :=
  imageByte image 0 == 0x5A &&
    check.toNat == 256 * imageByte image 18 + imageByte image 19 &&
    imageByte image 1 / 8 == 0 &&
    (List.range 16).all fun i => pointByteOk (imageByte image (2 + i))

/-- The image byte of a point with these settings (Table 84). -/
def byteOfPoint (c : PointSettings) : Nat :=
  (if c.enabled then 128 else 0) +
    (match c.polarity with | .abnormalWhenOpen => 0 | .abnormalWhenClosed => 64) +
    (match c.mode with | .locking => 0 | .following => 32) +
    (match c.cls with | .a => 0 | .b => 8 | .c => 16) + 2 * groupCode c.group

/-- The code of a presence period (Table 84). -/
def codeOfPeriod : PeriodCode → Nat
  | .quarter => 0
  | .half => 1
  | .one => 2
  | .two => 3

/-- Bytes 0 to 17 of the image that gives these settings, as bits (Table 84). -/
def imageBody (c : Settings) : List Bool :=
  toBits 8 0x5A ++ toBits 8 ((match c.tone with | .continuous => 0 | .warble => 4) + codeOfPeriod c.period) ++
    c.points.toList.flatMap fun p => toBits 8 (byteOfPoint p)

/-- The image that gives these settings, check included (Table 84). -/
def imageOf (c : Settings) : List Bool :=
  imageBody c ++ toBits 16 (checkOf (imageBody c)).toNat

end Sys2Proof.Machine
end

