-- ==== Sys2Proof/Machine/StartUp.lean ====
section
/-! DEFINITION. The meanings of STATION_RESET, RELEASE_OF_RESET, CDI_SAMPLE and END_OF_LOADING (Chapter 10). -/

namespace Sys2Proof.Machine

open Sys2Proof.Config

/-- The causes in force once this one has come into force too (R158). -/
def withCause (c : ResetCause) (g : ResetGate) : ResetGate :=
  match c with
  | .powerOn => { g with powerOn := true }
  | .resetPin => { g with resetPin := true }
  | .supply => { g with supply := true }

/-- STATION_RESET (R158): every block takes its reset values, and whatever is in progress ends with no outcome. Causes
that overlap form one station reset. -/
def execStationReset (c : ResetCause) (s : State) : Host.Outcome State Fault Refusal :=
  .next (.inReset (withCause c s.startup.causes) s.pins s.pending)

/-- No reset cause in force. -/
def noCauses : ResetGate := { powerOn := false, resetPin := false, supply := false }

/-- RELEASE_OF_RESET (R159): the strap pins are read into the latch (R160), LOADING begins, the read begins by CCS low if
CFGEN is 1 (R162), and LCD frame 0 begins with common period 0, every cell off (R145, R152). -/
def execReleaseOfReset (pins : StrapPins) (s : State) : Host.Outcome State Fault Refusal :=
  if inReset s then
    .next
      { s with
        startup := { s.startup with causes := noCauses, straps := readStraps pins, ccs := !pins.cfgen }
        panel := { s.panel with lcdFrame := 0, common := some 0, cells := Vector.replicate 35 false } }
  else .next s

/-- The image reader runs: LOADING outside reset, with CFGEN latched as 1 (R161). -/
def readingImage (s : State) : Bool :=
  loading s && !inReset s && s.startup.straps.cfgen

/-- CDI_SAMPLE (R162): at a rising edge of CCK, one bit into the image buffer, and the first 144 bits through the check
register. -/
def execCdiSample (level : Bool) (s : State) : Host.Outcome State Fault Refusal :=
  if readingImage s ∧ s.startup.image.length < 160 then
    .next
      { s with
        startup :=
          { s.startup with
            cck := true
            image := s.startup.image ++ [level]
            check := if s.startup.image.length < 144 then checkStep s.startup.check level else s.startup.check }
        pins := { s.pins with cdi := level } }
  else .next { s with pins := { s.pins with cdi := level } }

/-- The image was read and is refused (R164). -/
def imageRefused (u : StartUp) : Bool :=
  u.straps.cfgen && !imageAccepted u.image u.check

/-- The configuration to place in force (Table 85). -/
def settingsFor (u : StartUp) : Settings :=
  if u.straps.cfgen && imageAccepted u.image u.check then imageSettings u.image else defaults

/-- The five configuration fields of a record (R9); the other fields are not written. -/
def configure (c : PointSettings) (r : OwnPoint) : OwnPoint :=
  { r with enabled := c.enabled, polarity := c.polarity, mode := c.mode, cls := c.cls, group := c.group }

/-- The read is over: all 160 bits are in, or there is no read (R161, R162). -/
def readOver (u : StartUp) : Bool := !u.straps.cfgen || u.image.length == 160

/-- END_OF_LOADING (R166): the decision and CONFIG FAULT, the configuration, the start of the Line Interface (Table 28),
and LISTEN. The scanners run from here on, because they run exactly while the state is not LOADING. -/
def execEndOfLoading (s : State) : Host.Outcome State Fault Refusal :=
  if loading s && !inReset s && readOver s.startup then
    let c := settingsFor s.startup
    .next (enterListen
      { s with
        startup :=
          { s.startup with
            ccs := true, cck := false, image := [], period := c.period, configFault := imageRefused s.startup }
        points := Vector.ofFn fun i => configure c.points[i] s.points[i]
        line := .start
        panel := { s.panel with tone := c.tone } })
  else .next s

end Sys2Proof.Machine
end

