-- ==== Sys2Proof/Machine/Dispatch.lean ====
section
/-! DEFINITION. The dispatch of the commands to their meanings, one arm for each row of spec/opcode_table.json. -/

namespace Sys2Proof.Machine

/-- The effect of a command on everything but the queue. -/
def exec (i : Instr) (s : State) : Host.Outcome State Fault Refusal :=
  match i with
  | .stationReset cause => Sys2Proof.Machine.execStationReset cause s
  | .releaseOfReset pins => Sys2Proof.Machine.execReleaseOfReset pins s
  | .endOfLoading => Sys2Proof.Machine.execEndOfLoading s
  | .fieldInputSample longest levels => Sys2Proof.Machine.execFieldInputSample longest levels s
  | .keySample levels => Sys2Proof.Machine.execKeySample levels s
  | .lineBusy => Sys2Proof.Machine.execLineBusy s
  | .lineQuiet => Sys2Proof.Machine.execLineQuiet s
  | .ladderRepeat => Sys2Proof.Machine.execLadderRepeat s
  | .ladderStartAfterUnheardAttempt => Sys2Proof.Machine.execLadderStartAfterUnheardAttempt s
  | .slotStart cls => Sys2Proof.Machine.execSlotStart cls s
  | .ownStartMarkEnd => Sys2Proof.Machine.execOwnStartMarkEnd s
  | .collision half => Sys2Proof.Machine.execCollision half s
  | .attemptSuccess => Sys2Proof.Machine.execAttemptSuccess s
  | .attemptFailure => Sys2Proof.Machine.execAttemptFailure s
  | .jamEvent => Sys2Proof.Machine.execJamEvent s
  | .presenceTimerExpiry => Sys2Proof.Machine.execPresenceTimerExpiry s
  | .listenWindowEnd => Sys2Proof.Machine.execListenWindowEnd s
  | .lostTimerExpiry peer => Sys2Proof.Machine.execLostTimerExpiry peer s
  | .supplyWarningEvent => Sys2Proof.Machine.execSupplyWarningEvent s
  | .supplyRecoveryEvent => Sys2Proof.Machine.execSupplyRecoveryEvent s
  | .startOfFrame => Sys2Proof.Machine.execStartOfFrame s
  | .damagedFrame => Sys2Proof.Machine.execDamagedFrame s
  | .receivePresence header enabled => Sys2Proof.Machine.execReceivePresence header enabled s
  | .receiveHello header enabled => Sys2Proof.Machine.execReceiveHello header enabled s
  | .receiveAnnounce header entries => Sys2Proof.Machine.execReceiveAnnounce header entries s
  | .receiveAckReq header target pairs => Sys2Proof.Machine.execReceiveAckReq header target pairs s
  | .receiveResetReq header target pairs => Sys2Proof.Machine.execReceiveResetReq header target pairs s
  | .receiveRefreshReq header target => Sys2Proof.Machine.execReceiveRefreshReq header target s
  | .receiveSilence header => Sys2Proof.Machine.execReceiveSilence header s
  | .receiveDepart header => Sys2Proof.Machine.execReceiveDepart header s
  | .receiveOwnNumberFrame => Sys2Proof.Machine.execReceiveOwnNumberFrame s
  | .firstHighSample => Sys2Proof.Machine.execFirstHighSample s
  | .spike => Sys2Proof.Machine.execSpike s
  | .unframedCarrier => Sys2Proof.Machine.execUnframedCarrier s
  | .cdiSample level => Sys2Proof.Machine.execCdiSample level s
  | .commonPeriodStart => Sys2Proof.Machine.execCommonPeriodStart s
  | .toneInstant at32 => Sys2Proof.Machine.execToneInstant at32 s

end Sys2Proof.Machine
end

