-- ==== Sys2Proof/Machine/Tick.lean ====
section
/-! DEFINITION. One tick of the 32.768 kHz time base, which is what the station does while no command waits (R134 to R136;
log entry 6), the half-bits that it passes in WAIT, and the commands that fall due at it (Table 67). -/

namespace Sys2Proof.Machine

open Sys2Proof.Config

/-- One tick of a timer that runs to this length (R135). -/
def tickTimer (length : Nat) (t : Timer) : Timer :=
  if t.running ∧ t.ticks < length then { t with ticks := t.ticks + 1 } else t

/-- The tone period in progress after a tick: cut short if it is to be cut (R153). -/
def tickHorn (p : PanelDriver) : PanelDriver :=
  if p.hornCut then { p with hornPeriod := none, hornCut := false }
  else { p with hornPeriod := p.hornPeriod.map fun t => { t with elapsed := t.elapsed + 1 } }

/-- CCK after the tick to count `t`: it falls two ticks after each rising edge (R162). -/
def tickCck (t : Nat) (s : State) : Bool :=
  if readingImage s ∧ t % 4 = 2 then false else s.startup.cck

/-! ### The line clock (R23, R28, R38; log entry 3) -/

/-- What the window's part comes to with one tick more: a half is 8 periods of the line clock (R23), and a second is 32768
ticks. -/
def windowAfterTick (s : State) : Nat := s.line.windowPart.val + stationLineClock s / 8

/-- The Line Interface before each of these halves, with the half. -/
def beforeEach (l : LineInterface) : List Bool → List (LineInterface × Bool)
  | [] => []
  | h :: rest => (l, h) :: beforeEach (l.hear h) rest

/-- This half is the 24th without carrier, at which the line becomes QUIET (R28). -/
def endsInQuiet (x : LineInterface × Bool) : Bool :=
  x.1.status == .busy && x.1.quietCount == 23 && !x.2

/-- This half ends the 2048th BT on a BUSY line (R38). -/
def endsInJam (x : LineInterface × Bool) : Bool :=
  x.1.status == .busy && (x.1.decided + 1) % 2 == 0 && (jamStep x.1.jamCount).2

/-- The halves that end with this tick in WAIT, up to the one at which the line becomes QUIET. In the other receiver states
the commands bring the halves, or none is counted. -/
def halvesOfTick (s : State) : Nat :=
  if s.line.receiver = .wait then
    let n := windowAfterTick s / 32768
    min n ((beforeEach s.line (halvesOn s.pins n)).findIdx endsInQuiet + 1)
  else 0

/-- The line clock over one tick. DESIGN CHOICE, unsafe: `windowPart` counts from the tick before the window's beginning, which
fixes the tick at which a half ends, and with it that of LINE_QUIET and JAM_EVENT (log entry 32). -/
def tickLine (s : State) : State :=
  if s.line.receiver = .wait then
    let t := hearPins (halvesOfTick s) s
    { t with line := { t.line with windowPart := Fin.ofNat 32768 (windowAfterTick s) } }
  else s

/-- The line events due at this tick, in the order of their halves (R28, R38): no half is decided after the one at which the
line becomes QUIET. -/
def dueLine (s : State) : List Instr :=
  let halves := beforeEach s.line (halvesOn s.pins (halvesOfTick s))
  (if halves.any endsInJam then [.jamEvent] else []) ++ (if halves.any endsInQuiet then [.lineQuiet] else [])

/-! ### The tick -/

/-- Everything that a tick advances (R134 to R136, R142), but the line clock and the queue. -/
def tickCounters (s : State) : State :=
  { s with
    startup := { s.startup with cck := tickCck (s.time.tickCount + 1) s }
    access := { s.access with presenceTimer := tickTimer (presencePeriod s) s.access.presenceTimer }
    member := { s.member with listenTimer := tickTimer (listenWindow s) s.member.listenTimer }
    peers := Vector.ofFn fun p => { s.peers[p] with silence := tickTimer (lostLength s) s.peers[p].silence }
    time :=
      { tickCount := s.time.tickCount + 1, wheel := s.time.wheel + 1, elapsed := s.time.elapsed.map (· + 1) }
    panel := tickHorn s.panel }

/-- The longest debounce class with an instant at tick count `t`, if there is one (R3, R134). -/
def sampleClass (t : Nat) : Option DebounceClass :=
  if t % 2048 = 0 then some .c else if t % 256 = 0 then some .b else if t % 32 = 0 then some .a else none

/-- The kind of tone instant at tick count `t`, if there is one (R134, R154). -/
def toneInstantAt (t : Nat) : Option ToneInstant :=
  if t % 32 = 0 then some .of32 else if t % 16 = 0 then some .of16 else none

/-- The timer expiries due at this tick (R49, R61, R78). -/
def dueTimers (s : State) : List Instr :=
  (if expired (presencePeriod s) s.access.presenceTimer then [.presenceTimerExpiry] else []) ++
    (if expired (listenWindow s) s.member.listenTimer then [.listenWindowEnd] else []) ++
    ((List.finRange 16).filter fun p => expired (lostLength s) s.peers[p].silence).map .lostTimerExpiry

/-- The start-up commands due at this tick (R162, R166). -/
def dueLoading (s : State) : List Instr :=
  if loading s then
    (if readingImage s ∧ s.time.tickCount % 4 = 0 ∧ s.time.tickCount ≤ 640 then [.cdiSample s.pins.cdi] else []) ++
      (if s.time.tickCount = 644 then [.endOfLoading] else [])
  else []

/-- The samples, the common period and the tone instant due at this tick (R3, R115, R145, R154). -/
def dueInstants (s : State) : List Instr :=
  let t := s.time.tickCount
  (match sampleClass t with
    | some longest => if loading s then [] else [.fieldInputSample longest s.pins.fi]
    | none => []) ++
    (if t % 256 = 0 ∧ !loading s then [.keySample s.pins.keys] else []) ++
    (if t % 64 = 0 then [.commonPeriodStart] else []) ++
    (match toneInstantAt t with
      | some k => if loading s then [] else [.toneInstant k]
      | none => [])

/-- One tick with no command waiting. While reset is in force the counts are held at 0 and nothing runs (R134, R136). -/
def tick (s : State) : State :=
  if inReset s then s
  else
    let t := tickCounters (tickLine s)
    { t with pending := dueTimers t ++ dueLine s ++ dueLoading t ++ dueInstants t }

end Sys2Proof.Machine
end

