-- ==== Sys2Proof/Safety.lean ====
section
/-! DEFINITION. What a sound state of the station is: the relations between the blocks that the rules state or imply. Each
is a decidable proposition; `Sound` gathers them. Claims that every step keeps them are stated in
Sys2Proof/Certificates/Slice0/Obligations.lean. -/

namespace Sys2Proof.Safety

open Sys2Proof.Machine

/-! ### Line, ladder and attempt -/

/-- The receiver, the line status, the counts, the ladder and the attempt agree (R28, R29, R30, R42, R43, R50). -/
abbrev LineCoherent (s : State) : Prop :=
  (s.line.receiver = .off ↔ s.member.own = .loading) ∧
  (s.line.receiver = .wait → s.line.status = .busy) ∧
  (s.line.receiver = .frame → s.line.status = .busy) ∧
  (s.line.receiver = .idle → s.line.status = .quiet) ∧
  (s.line.receiver = .mark → s.line.decided = if s.line.status = .busy then 1 else 0) ∧
  (s.line.receiver = .frame → s.line.decided = 8) ∧
  (s.line.receiver = .transmit ↔ s.access.attempt.isSome) ∧
  (s.access.ladder.isSome → s.line.status = .quiet ∧ s.access.attempt = none) ∧
  (s.access.unheardWait → s.line.status = .quiet ∧ s.access.attempt = none ∧ s.access.ladder = none) ∧
  (∀ a ∈ s.access.attempt, (a.heard ↔ s.line.status = .busy)) ∧
  (s.line.status = .quiet ↔ s.line.quietCount = 24) ∧
  (s.line.status = .quiet → s.line.jamCount = 0)

/-- A frame being received has its elapsed count running (R30, R142). -/
abbrev ElapsedRuns (s : State) : Prop := s.line.receiver = .frame → s.time.elapsed.isSome

/-- A frame on the line from this station is one that a receiver finds in range, and bears the own number (R33, R48). -/
abbrev AttemptValid (s : State) : Prop :=
  ∀ a ∈ s.access.attempt, bodyInRange a.frame.body ∧ a.frame.header.sender = ownNumber s

/-- An attempt is in progress only in GROUP, SOLO and WARNING (R44, R50). -/
abbrev AttemptPermitted (s : State) : Prop := s.access.attempt.isSome → mayTransmit s

/-- Sixteen failures in a row leave LINE FAULT set (R58). -/
abbrev FaultCounted (s : State) : Prop := s.access.failedCount = 16 → s.access.lineFault

/-! ### Membership -/

/-- The marks and timers of the Membership Controller agree with the own state (R61 to R70). -/
abbrev MembershipCoherent (s : State) : Prop :=
  (s.member.listenTimer.running ↔ s.member.own = .listen) ∧
  (s.member.departPending ↔ s.member.own = .warning) ∧
  (s.member.returnState.isSome ↔ s.member.own = .warning) ∧
  (s.member.own = .warning → s.member.departFailures.val < 4) ∧
  (s.member.heldRecovery → s.member.own = .warning ∧ departInFlight s) ∧
  (s.member.helloQueued → s.member.own = .group ∨ s.member.own = .solo ∨ s.member.own = .warning)

/-- A station in WARNING that came from LISTEN sends nothing but its DEPART (R66, R68). -/
abbrev ReturnToListen (s : State) : Prop :=
  s.member.own = .warning → s.member.returnState = some .listen → s.access.attempt.isSome → departInFlight s

/-- The presence timer runs or has run out exactly where Table 35 lets it (R49). -/
abbrev PresenceTimerCoherent (s : State) : Prop :=
  (s.member.own = .group ∨ s.member.own = .solo → (s.access.presenceTimer.running ↔ ¬ s.access.presencePending)) ∧
  (s.member.own = .warning → s.member.returnState = some .group →
    (s.access.presenceTimer.running ↔ ¬ s.access.presencePending)) ∧
  (s.member.own = .warning → s.member.returnState = some .listen →
    s.access.presenceTimer = .stopped ∧ s.access.presencePending = false) ∧
  (s.member.own = .loading ∨ s.member.own = .listen ∨ s.member.own = .departed ∨ s.member.own = .duplicate →
    s.access.presenceTimer = .stopped ∧ s.access.presencePending = false)

/-- The station is SOLO exactly while no peer entry is PRESENT (R65). -/
abbrev SoloCoherent (s : State) : Prop :=
  (s.member.own = .solo → anyPresent s = false) ∧ (s.member.own = .group → anyPresent s = true)

/-- Timers do not pass their lengths (R135). -/
abbrev TimersBounded (s : State) : Prop :=
  s.access.presenceTimer.ticks ≤ presencePeriod s ∧ s.member.listenTimer.ticks ≤ listenWindow s ∧
  ∀ p : Fin 16, s.peers[p].silence.ticks ≤ lostLength s

/-- Peer entries: the own place is inert, the lost timer runs exactly while PRESENT and is stopped at 0 otherwise, and an
entry has a last sequence exactly when it is not ABSENT (R72, R78). -/
abbrev PeersCoherent (s : State) : Prop :=
  s.peers[ownNumber s] = .reset ∧
  ∀ p : Fin 16,
    (s.peers[p].silence.running ↔ s.peers[p].state = .present) ∧
    (s.peers[p].state ≠ .present → s.peers[p].silence = .stopped) ∧
    (s.peers[p].lastSequence.isSome ↔ s.peers[p].state ≠ .absent)

/-! ### Own points -/

/-- RAISED and HELD go with ABNORMAL, every other state with NORMAL; a FOLLOWING point is never LAPSED or CLEARED (R15,
Section 1.5). -/
abbrev PointCoherent (r : OwnPoint) : Prop :=
  (r.condition = .abnormal ↔ r.state = .raised ∨ r.state = .held) ∧
  (r.mode = .following → r.state ≠ .lapsed ∧ r.state ≠ .cleared)

/-- A disabled record keeps its reset values (R10). -/
abbrev DisabledInert (r : OwnPoint) : Prop :=
  r.enabled = false →
    r.state = .quiet ∧ r.version = 0 ∧ r.condition = .normal ∧ r.published = none ∧ r.snapshot = none

/-- Every own record is coherent, and a disabled one is inert and is not counted (R6, R10, R15). -/
abbrev PointsCoherent (s : State) : Prop :=
  ∀ i : Fin 16, PointCoherent s.points[i] ∧ DisabledInert s.points[i] ∧
    (s.points[i].enabled = false → s.disagree[i] = 0)

/-- The frame in flight carries this pair for own point `i`: it is an ANNOUNCE with an entry of that index, state and
version. -/
def carries (s : State) (i : PointIndex) (pair : PointPair) : Bool :=
  s.access.attempt.any fun a =>
    match a.frame.body with
    | .announce es => es.any fun e => e.index == i && e.state == pair.state && e.version == pair.version
    | _ => false

/-- A point has a snapshot only while an ANNOUNCE that carries it is in flight, with the very pair that its entry carries,
and is then listed (R88). -/
abbrev SnapshotsInFlight (s : State) : Prop :=
  ∀ i : Fin 16, ∀ pair ∈ s.points[i].snapshot, i ∈ s.list ∧ carries s i pair

/-- The Announcement List holds each point at most once, and enabled points only (R82). -/
abbrev ListCoherent (s : State) : Prop :=
  s.list.Nodup ∧ ∀ i ∈ s.list, s.points[i].enabled

/-! ### The Request Queue -/

/-- The list of a request is one that a receiver finds in range (R122). -/
def requestInRange : Request → Bool
  | .ackReq _ ps => pairsInRange ps
  | .resetReq _ ps => pairsInRange ps
  | .silence => true
  | .refreshReq _ => true

/-- At most 16 entries, no two of the same kind and target (R122). -/
abbrev QueueBounded (q : RequestQueue) : Prop :=
  q.entries.length ≤ 16 ∧ q.entries.Pairwise fun a b => sameKey a.request b.request = false

/-- Every target is a PRESENT peer (R127), lists are in range, only the head is ever in flight, and only while the attempt that
was built from it is in progress, and only an entry in flight is merged (R123, R125). -/
abbrev QueueCoherent (s : State) : Prop :=
  (∀ e ∈ s.queue.entries, ∀ p ∈ targetOf e.request, isPresent s p) ∧
  (∀ e ∈ s.queue.entries, requestInRange e.request) ∧
  (∀ e ∈ s.queue.entries.tail, e.inFlight = false) ∧
  (∀ e ∈ s.queue.entries, e.merged → e.inFlight) ∧
  (∀ e ∈ s.queue.entries, e.inFlight → ∃ a ∈ s.access.attempt, bodyKind a.frame.body = requestKind e.request)

/-! ### The Mirror Table -/

/-- A VACANT row is inert (R96), and a horn flag is set only on a RAISED or LAPSED row (R100). -/
abbrev RowCoherent (row : MirrorRow) : Prop :=
  (row.content = none → row = .vacant) ∧ (row.horn → rowIs unacked row)

/-- Remote rows: the own places are VACANT, every row is coherent, an ABSENT owner has VACANT rows only, and a row is
stale exactly if it is not VACANT and its owner is LOST or DEPARTED (R96, R106, R107, R118). -/
abbrev RowsCoherent (s : State) : Prop :=
  ∀ p i : Fin 16,
    (p = ownNumber s → s.mirror.remote[p][i] = .vacant) ∧
    RowCoherent s.mirror.remote[p][i] ∧
    (s.peers[p].state = .absent → s.mirror.remote[p][i] = .vacant) ∧
    (s.mirror.remote[p][i].stale ↔
      s.mirror.remote[p][i].content.isSome ∧ (s.peers[p].state = .lost ∨ s.peers[p].state = .departed))

/-- An own row's horn flag is set only while the record is RAISED or LAPSED (R103). -/
abbrev OwnHornCoherent (s : State) : Prop :=
  ∀ i : Fin 16, s.mirror.ownHorn[i] → s.points[i].enabled ∧ unacked s.points[i].state

/-- The point that a register of group `g` holds belongs to the group, and its row is neither QUIET nor VACANT (R108). -/
abbrev RegisterCoherent (s : State) (g : FirstOutGroup) : Prop :=
  ∀ p ∈ s.mirror.firstOut.get g,
    (rowOf s p.owner p.index).group = g ∧ rowIs (· != .quiet) (rowOf s p.owner p.index)

/-- All three registers (R108). -/
abbrev FirstOutCoherent (s : State) : Prop :=
  RegisterCoherent s .g1 ∧ RegisterCoherent s .g2 ∧ RegisterCoherent s .g3

/-! ### Reset and LOADING -/

/-- While reset is in force every block holds its reset values (R158). -/
abbrev ResetHeld (s : State) : Prop :=
  inReset s → s = .inReset s.startup.causes s.pins s.pending

/-- During LOADING every stopped block still holds its reset values (R161, R167). -/
abbrev LoadingQuiescent (s : State) : Prop :=
  s.member.own = .loading →
    s.disagree = Vector.replicate 16 0 ∧ s.points = Vector.replicate 16 (.fresh Config.defaultPoint) ∧ s.list = [] ∧
    s.line = .reset ∧ s.access = .reset ∧ s.member = .reset ∧ s.peers = Vector.replicate 16 .reset ∧
    s.mirror = .reset ∧ s.keys = .reset ∧ s.queue = .reset ∧ s.panel.hornPeriod = none ∧ s.startup.configFault = false ∧
    s.startup.period = .one

/-- The image buffer never holds more than the 160 bits of an image, and none after LOADING (R162, Table 88). -/
abbrev ImageBounded (s : State) : Prop :=
  s.startup.image.length ≤ 160 ∧ (s.member.own ≠ .loading → s.startup.image = [] ∧ s.startup.ccs = true)

/-! ### The check register -/

/-- During LOADING the check register is the check of the first 144 bits read (R162). -/
abbrev CheckFormed (s : State) : Prop :=
  s.member.own = .loading → s.startup.check = checkOf (s.startup.image.take 144)

/-! ### Words of the statements: own points -/

/-- The condition that this sample of own point `i` shows (R1, R2). -/
def seenAt (levels : Mask) (s : State) (i : PointIndex) : Condition :=
  sampleCondition s.points[i].polarity (readingOf levels[i])

/-- The sample is the fourth disagreeing one in a row of a point that is sampled here (R3, R4, R6). -/
def changesAt (longest : DebounceClass) (levels : Mask) (s : State) (i : PointIndex) : Bool :=
  s.points[i].enabled && sampledAt longest s.points[i].cls && seenAt levels s i != s.points[i].condition &&
    s.disagree[i] == 3

/-- The move that the change of condition makes, if there is a change and it makes one (R12, R15). -/
def moveAt (longest : DebounceClass) (levels : Mask) (s : State) (i : PointIndex) : Option PointState :=
  if changesAt longest levels s i then
    conditionMove s.points[i].mode (seenAt levels s i) s.points[i].state
  else none

/-- The version of a record after a move to `new` (R17). -/
def versionMoved (new : PointState) (r : OwnPoint) : Version :=
  if new = .raised then r.version + 1 else r.version

/-- The record after a move, if there is one: the new state, the version of R17, and, in local publication mode, the
publication of R93, which leaves no snapshot. -/
def moved (locally : Bool) (move : Option PointState) (r : OwnPoint) : OwnPoint :=
  match move with
  | none => r
  | some new =>
    { r with
      state := new
      version := versionMoved new r
      published := if locally then some { state := new, version := versionMoved new r } else r.published
      snapshot := if locally then none else r.snapshot }

/-- The own row's horn flag after a move: it clears unless the new state is RAISED or LAPSED (R103), and the publication of a
new raise in local publication mode sets it (R93, R98, R102). -/
def hornMoved (locally : Bool) (move : Option PointState) (r : OwnPoint) (old : Bool) : Bool :=
  match move with
  | none => old
  | some new =>
    unacked new && (old || (locally && r.published.map (·.version) != some (versionMoved new r)))

/-- The register of group `g` after a move of own point `p`: a move to QUIET empties it if it holds the point (R103), and the
publication of a new raise in local publication mode takes it if it is empty (R93, R98, R102). -/
def registerMoved (locally : Bool) (p : PointRef) (move : Option PointState) (r : OwnPoint) (g : FirstOutGroup)
    (before : Option PointRef) : Option PointRef :=
  match move with
  | none => before
  | some new =>
    if new = .quiet then (if before = some p then none else before)
    else if locally = true ∧ before = none ∧ g = r.group ∧ g ≠ .g0 ∧
        r.published.map (·.version) ≠ some (versionMoved new r) then some p
    else before

/-- The first-out registers of `after` are those of `before` after these moves of the own points in ascending index. -/
abbrev RegistersMoved (locally : Bool) (move : PointIndex → Option PointState) (before after : State) : Prop :=
  ∀ g ∈ [FirstOutGroup.g1, .g2, .g3],
    after.mirror.firstOut.get g =
      (List.finRange 16).foldl
        (fun r i =>
          registerMoved locally { owner := ownNumber before, index := i } (move i) before.points[i] g r)
        (before.mirror.firstOut.get g)

/-- The move that a claim makes on this record by the table `moveOf`, where `taken` says that it carries the record's version
(R10, R18). -/
def claimMove (moveOf : PointMode → PointState → Option PointState) (taken : Bool) (r : OwnPoint) : Option PointState :=
  if r.enabled && taken then moveOf r.mode r.state else none

/-- A publication of this pair of this record is a new raise (R98). -/
def raisesAnew (r : OwnPoint) (pair : PointPair) : Bool :=
  pair.state != .quiet && r.published.map (·.version) != some pair.version

/-- The own row's horn flag after a publication of this pair (R102). -/
def hornPublished (r : OwnPoint) (pair : PointPair) (old : Bool) : Bool :=
  unacked pair.state && (old || (unacked r.state && raisesAnew r pair))

/-- The register of group `g` after a publication of this pair of own point `p` (R102). -/
def registerPublished (p : PointRef) (r : OwnPoint) (pair : PointPair) (g : FirstOutGroup) (before : Option PointRef) :
    Option PointRef :=
  if before = none ∧ g = r.group ∧ g ≠ .g0 ∧ r.state ≠ .quiet ∧ raisesAnew r pair = true then some p else before

/-- The catch-up reaches this record: it has no snapshot, and another pair than its present one is published (R94). -/
def isBehind (r : OwnPoint) : Bool := r.snapshot.isNone && r.published != some (pairOf r)

/-- The records, the own rows' horn flags and the first-out registers of `after` are these, caught up for the points of
`list` in their order if `taken` says that the catch-up is taken (R91, R94, R102). -/
abbrev CaughtUpFrom (taken : Bool) (list : List PointIndex) (owner : StationNo) (records : PointIndex → OwnPoint)
    (horn : PointIndex → Bool) (register : FirstOutGroup → Option PointRef) (after : State) : Prop :=
  (∀ i : Fin 16,
    after.points[i] =
      (if taken && list.contains i && isBehind (records i) then
        { records i with published := some (pairOf (records i)) } else records i) ∧
    after.mirror.ownHorn[i] =
      (if taken && list.contains i && isBehind (records i) then
        hornPublished (records i) (pairOf (records i)) (horn i) else horn i)) ∧
  ∀ g ∈ [FirstOutGroup.g1, .g2, .g3],
    after.mirror.firstOut.get g =
      list.foldl
        (fun held i =>
          if taken && isBehind (records i) then
            registerPublished { owner := owner, index := i } (records i) (pairOf (records i)) g held
          else held)
        (register g)

/-- The records, own rows and registers of `after` are those of `before`, caught up if local publication mode has begun
(R94). -/
abbrev CaughtUp (before after : State) : Prop :=
  CaughtUpFrom (!localMode before && localMode after) before.list (ownNumber before)
    (fun i => before.points[i])
    (fun i => before.mirror.ownHorn[i]) before.mirror.firstOut.get after

/-- The record after the success of the ANNOUNCE that carried its snapshot (R89). -/
def settled (r : OwnPoint) : OwnPoint :=
  { r with snapshot := none, published := if r.snapshot.isSome then r.snapshot else r.published }

/-- The own row's horn flag after the publication of the record's snapshot, if it has one (R89, R102). -/
def hornSettled (r : OwnPoint) (old : Bool) : Bool :=
  match r.snapshot with
  | some pair => hornPublished r pair old
  | none => old

/-- The register of group `g` after the publication of the snapshot of own point `p`, if it has one (R89, R102). -/
def registerSettled (p : PointRef) (r : OwnPoint) (g : FirstOutGroup) (before : Option PointRef) : Option PointRef :=
  match r.snapshot with
  | some pair => registerPublished p r pair g before
  | none => before

/-- This list after a full refresh of this station's points (R84). -/
def refreshed (s : State) (l : List PointIndex) : List PointIndex :=
  l ++ (List.finRange 16).filter fun i => s.points[i].enabled && !l.contains i

/-! ### Words of the statements: the line -/

/-- The quiet count of a BUSY line whose count is below 24 (R28). -/
abbrev CountBelow (l : LineInterface) : Prop := l.status = .busy → l.quietCount ≠ 24

/-- How many halves without carrier stand in succession at the end of these, `count` having stood before them (R28). -/
def quietRun (count : Nat) (halves : List Bool) : Nat :=
  if halves.contains true then (halves.reverse.takeWhile (!·)).length else count + halves.length

/-- The Line Interface after these halves (R28, R38). Nothing is counted on a QUIET line. On a BUSY line the quiet count stops
at 23 and the jam count at 2047, for their last step is the event LINE_QUIET or JAM_EVENT; a BT ends at each even half. The
next window begins at the last tick (log entry 32). -/
def heardLine (halves : List Bool) (l : LineInterface) : LineInterface :=
  if l.status = .quiet then { l with decided := l.decided + halves.length, windowPart := 0 }
  else
    { l with
      decided := l.decided + halves.length, windowPart := 0
      quietCount := Fin.ofNat 25 (min 23 (quietRun l.quietCount.val halves))
      jamCount :=
        if l.jamCount = 2048 then 2048
        else Fin.ofNat 2049 (min 2047 (l.jamCount.val + ((l.decided + halves.length) / 2 - l.decided / 2))) }

/-- Where the half-bit window stands after a tick, in 32768ths of a half: there are two halves in a bit time (R23). -/
def windowTicked (s : State) : Nat := s.line.windowPart.val + 2 * bitRate s.startup.straps.lineRate

/-- The last bit of a frame's check. -/
def lastCheckBit (f : Frame) : Bool := (checkOf (frameCovered f)).getLsbD 0

/-! ### Words of the statements: keys and requests -/

/-- Whether the tone period in progress is to be cut after an event that took `before` to `after`: exactly where there is one and
the event leaves the sounding condition false (R153). -/
def hornCutAfter (before after : State) : Bool :=
  before.panel.hornPeriod.isSome && !sounding after

/-- This sample is a press of the key (R115). -/
def presses (level : Bool) (k : KeyDebounce) : Bool :=
  !level && !k.pressed && k.disagree == 3

/-- A key after a sample (R115): a low level reads pressed. -/
def keyAfter (level : Bool) (k : KeyDebounce) : KeyDebounce :=
  if level ≠ k.pressed then { k with disagree := 0 }
  else if k.disagree = 3 then { pressed := !k.pressed, disagree := 0 }
  else { k with disagree := k.disagree + 1 }

/-- The pairs of the rows of peer `p` whose state `test` accepts, in rising index (R118, R119). -/
def pairsFor (test : PointState → Bool) (s : State) (p : StationNo) : List ReqPair :=
  (List.finRange 16).filterMap fun i =>
    (s.mirror.remote[p][i].content.filter fun c => test c.state).map fun c => { index := i, version := c.version }

/-- The requests of one press of KACK or KRST, in ascending target (R118, R119). -/
def requestsFor (make : StationNo → List ReqPair → Request) (test : PointState → Bool) (s : State) : List Request :=
  ((List.finRange 16).filter fun p => isPresent s p && !(pairsFor test s p).isEmpty).map fun p =>
    make p (pairsFor test s p)

/-- The queue after the offers of one press, if the key is pressed (R123, R124). -/
def queueAfterPress (pressed : Bool) (requests : List Request) (q : RequestQueue) : RequestQueue :=
  if pressed then requests.foldl offer { q with refused := false } else q

/-- The move that KACK makes on this record, if it is pressed (R117). -/
def kackMove (pressed : Bool) (r : OwnPoint) : Option PointState := claimMove acknowledgeMove pressed r

/-- The record after a press of KACK, if it is pressed. -/
def afterKack (locally pressed : Bool) (r : OwnPoint) : OwnPoint := moved locally (kackMove pressed r) r

/-- The move that KRST then makes, if it is pressed (R119). -/
def krstMove (locally kack krst : Bool) (r : OwnPoint) : Option PointState :=
  claimMove resetMove krst (afterKack locally kack r)

/-- The frame body that a request entry is sent as (R125). -/
def requestBody : Request → Body
  | .ackReq t ps => .ackReq t ps
  | .resetReq t ps => .resetReq t ps
  | .silence => .silence
  | .refreshReq t => .refreshReq t

/-- The frame was built from a request entry (R125). -/
def isRequest : Body → Bool
  | .ackReq _ _ => true
  | .resetReq _ _ => true
  | .silence => true
  | .refreshReq _ => true
  | _ => false

/-! ### Words of the statements: received frames and rows -/

/-- The command that delivers this frame from a peer (Table 27). -/
def receiveCommand (f : Frame) : Instr :=
  match f.body with
  | .presence m => .receivePresence f.header m
  | .hello m => .receiveHello f.header m
  | .announce es => .receiveAnnounce f.header es
  | .ackReq t ps => .receiveAckReq f.header t ps
  | .resetReq t ps => .receiveResetReq f.header t ps
  | .silence => .receiveSilence f.header
  | .refreshReq t => .receiveRefreshReq f.header t
  | .depart => .receiveDepart f.header

/-- The receiver is in FRAME, and this is a valid frame of a peer (R35, R36). -/
abbrev Hears (f : Frame) (s : State) : Prop :=
  s.line.receiver = .frame ∧ bodyInRange f.body ∧ f.header.sender ≠ ownNumber s

/-- A row of a peer that is PRESENT now: a stale mark goes if the peer was not PRESENT before (R107). -/
def returned (wasPresent : Bool) (row : MirrorRow) : MirrorRow :=
  if wasPresent then row else { row with stale := false }

/-- The row after an entry (R99, R100). -/
def rowAfterEntry (row : MirrorRow) (e : AnnounceEntry) : MirrorRow :=
  { content := some { state := e.state, version := e.version }
    group := e.group
    stale := false
    horn := unacked e.state && (row.horn || row.content.map (·.version) != some e.version) }

/-- The register of group `g` after an entry for point `p`, whose row stood so before it (R101). -/
def registerAfterEntry (p : PointRef) (row : MirrorRow) (g : FirstOutGroup) (before : Option PointRef)
    (e : AnnounceEntry) : Option PointRef :=
  if before = some p ∧ (g = row.group ∧ g ≠ e.group ∨ g = e.group ∧ e.state = .quiet) then none
  else if before = none ∧ g = e.group ∧ g ≠ .g0 ∧ e.state ≠ .quiet ∧
      (row.content.map (·.version) ≠ some e.version ∨ e.mark) then some p
  else before

/-! ### Soundness as a whole -/

/-- Everything together. -/
structure Sound (s : State) : Prop where
  line : LineCoherent s
  elapsed : ElapsedRuns s
  attemptValid : AttemptValid s
  attemptPermitted : AttemptPermitted s
  faultCounted : FaultCounted s
  membership : MembershipCoherent s
  returnToListen : ReturnToListen s
  presenceTimer : PresenceTimerCoherent s
  solo : SoloCoherent s
  timers : TimersBounded s
  peers : PeersCoherent s
  points : PointsCoherent s
  snapshots : SnapshotsInFlight s
  list : ListCoherent s
  queueBounded : QueueBounded s.queue
  queue : QueueCoherent s
  rows : RowsCoherent s
  ownHorn : OwnHornCoherent s
  firstOut : FirstOutCoherent s
  resetHeld : ResetHeld s
  loading : LoadingQuiescent s
  image : ImageBounded s
  check : CheckFormed s

end Sys2Proof.Safety
end

