-- ==== Sys2Proof/WellFormed.lean ====
section
/-! DEFINITION. Which commands are well formed: a received frame has every field in range (R33), and a collision is found
at a half of a transmission (R51). Everything else that the spec bounds is bounded by the types. -/

namespace Sys2Proof

/-- The halves of the longest transmission, 345 BT (Table 25). -/
def longestTransmission : Nat := 690

/-- The checks on a command's operands. -/
def Instr.wellFormed : Instr → Bool
  | .collision half => decide (1 ≤ half ∧ half ≤ longestTransmission)
  | .receiveAnnounce _ entries => Machine.entriesInRange entries
  | .receiveAckReq _ _ pairs => Machine.pairsInRange pairs
  | .receiveResetReq _ _ pairs => Machine.pairsInRange pairs
  | .stationReset _ => true
  | .releaseOfReset _ => true
  | .endOfLoading => true
  | .fieldInputSample _ _ => true
  | .keySample _ => true
  | .lineBusy => true
  | .lineQuiet => true
  | .ladderRepeat => true
  | .ladderStartAfterUnheardAttempt => true
  | .slotStart _ => true
  | .ownStartMarkEnd => true
  | .attemptSuccess => true
  | .attemptFailure => true
  | .jamEvent => true
  | .presenceTimerExpiry => true
  | .listenWindowEnd => true
  | .lostTimerExpiry _ => true
  | .supplyWarningEvent => true
  | .supplyRecoveryEvent => true
  | .startOfFrame => true
  | .damagedFrame => true
  | .receivePresence _ _ => true
  | .receiveHello _ _ => true
  | .receiveRefreshReq _ _ => true
  | .receiveSilence _ => true
  | .receiveDepart _ => true
  | .receiveOwnNumberFrame => true
  | .firstHighSample => true
  | .spike => true
  | .unframedCarrier => true
  | .cdiSample _ => true
  | .commonPeriodStart => true
  | .toneInstant _ => true

end Sys2Proof
end

