-- ==== Sys2Proof/Certificates/Slice0/Obligations.lean ====
section
/-! DEFINITION. The statements about the ZA-16, chapter by chapter of the spec. A frame is said by an equation
`t = { s with … }` that names every part that may differ. The words used are in Sys2Proof/Safety.lean. -/

section

open Sys2Proof Sys2Proof.Machine Sys2Proof.Safety

/-! ### The machine -/

/-- A step with command `c` at the front of the queue is `exec c` on the state with the queue's rest (the queue is the model's
choice, log entry 24). -/
def Obligations.StepRunsFrontCommand : Prop :=
  ∀ (c : Instr) (rest : List Instr) (s : State),
    step { s with pending := c :: rest } = exec c { s with pending := rest }

/-- Every command answers a next state, which is the model's deduction (log entry 25), and leaves the queue of waiting commands,
the model's own, as it is (log entry 24); that an event which does not arise is answered with the state as it stands is the
model's choice (log entry 5). -/
def Obligations.EveryCommandAnswersNext : Prop :=
  ∀ (c : Instr) (s : State), ∃ t, exec c s = .next t ∧ t.pending = s.pending

/-- With no command waiting a step is one tick of the time base (log entry 6, the model's choice): the counts and the timers of
R134 to R136 and R142 advance, CCK falls, the tone period runs or is cut (log entry 19), and the commands of the instants and
lengths of Table 67 that it reaches wait from then on, each once, and no other, with the levels that the pins last had (log
entry 2). In WAIT the halves of the line clock that end with it are decided, up to the 24th without carrier, and JAM_EVENT and
LINE_QUIET are due as the counts say, in this order (log entry 3). While reset is in force nothing moves. That a half-bit window
begins at a tick, from which the ticks at which its halves end follow, is the model's choice (log entry 32). -/
def Obligations.IdleStepIsOneTick : Prop :=
  ∀ (s : State), s.pending = [] → ∃ t, step s = .next t ∧
    (inReset s = true → t = s) ∧
    (inReset s = false →
      t.time.tickCount = s.time.tickCount + 1 ∧ t.time.wheel.val = (s.time.wheel.val + 1) % 32768 ∧
      t.time.elapsed = s.time.elapsed.map (· + 1) ∧
      t.member.listenTimer =
        (if s.member.listenTimer.running = true ∧ s.member.listenTimer.ticks < listenWindow s then
          { running := true, ticks := s.member.listenTimer.ticks + 1 } else s.member.listenTimer) ∧
      t.access.presenceTimer =
        (if s.access.presenceTimer.running = true ∧ s.access.presenceTimer.ticks < presencePeriod s then
          { running := true, ticks := s.access.presenceTimer.ticks + 1 } else s.access.presenceTimer) ∧
      (∀ p : Fin 16, t.peers[p] =
        if s.peers[p].silence.running = true ∧ s.peers[p].silence.ticks < lostLength s then
          { s.peers[p] with silence := { running := true, ticks := s.peers[p].silence.ticks + 1 } }
        else s.peers[p]) ∧
      t.startup.cck =
        (if loading s = true ∧ s.startup.straps.cfgen = true ∧ t.time.tickCount % 4 = 2 then false else s.startup.cck) ∧
      t.panel.hornPeriod =
        (if s.panel.hornCut = true then none
         else s.panel.hornPeriod.map fun p => { tone := p.tone, elapsed := p.elapsed + 1 }) ∧
      t.panel.hornCut = false ∧
      (Instr.presenceTimerExpiry ∈ t.pending ↔
        t.access.presenceTimer.running = true ∧ t.access.presenceTimer.ticks = presencePeriod s) ∧
      (Instr.listenWindowEnd ∈ t.pending ↔
        t.member.listenTimer.running = true ∧ t.member.listenTimer.ticks = listenWindow s) ∧
      (∀ p : Fin 16, Instr.lostTimerExpiry p ∈ t.pending ↔
        t.peers[p].silence.running = true ∧ t.peers[p].silence.ticks = lostLength s) ∧
      (s.line.receiver ≠ .wait →
        t.line = s.line ∧ t.pins = s.pins ∧ Instr.lineQuiet ∉ t.pending ∧ Instr.jamEvent ∉ t.pending) ∧
      (s.line.receiver = .wait → s.line.status = .busy → s.line.quietCount ≠ 24 →
        ∃ k ∈ List.range (windowTicked s / 32768 + 1),
          t.line = { heardLine (halvesOn s.pins k) s.line with windowPart := Fin.ofNat 32768 (windowTicked s) } ∧
          t.pins = { s.pins with lrx := s.pins.lrx.drop k } ∧
          (∀ j ∈ List.range k, 0 < j → quietRun s.line.quietCount.val (halvesOn s.pins j) < 24) ∧
          (k = windowTicked s / 32768 ∨
            0 < k ∧ quietRun s.line.quietCount.val (halvesOn s.pins k) = 24) ∧
          (Instr.lineQuiet ∈ t.pending ↔ 0 < k ∧ quietRun s.line.quietCount.val (halvesOn s.pins k) = 24) ∧
          (Instr.jamEvent ∈ t.pending ↔
            s.line.jamCount ≠ 2048 ∧
              2048 ≤ s.line.jamCount.val + ((s.line.decided + k) / 2 - s.line.decided / 2))) ∧
      (Instr.jamEvent ∈ t.pending → Instr.lineQuiet ∈ t.pending →
        t.pending.idxOf .jamEvent < t.pending.idxOf .lineQuiet) ∧
      (Instr.endOfLoading ∈ t.pending ↔ loading s = true ∧ t.time.tickCount = 644) ∧
      (Instr.cdiSample s.pins.cdi ∈ t.pending ↔
        readingImage s = true ∧ t.time.tickCount % 4 = 0 ∧ t.time.tickCount ≤ 640) ∧
      (Instr.keySample s.pins.keys ∈ t.pending ↔ loading s = false ∧ t.time.tickCount % 256 = 0) ∧
      (Instr.fieldInputSample .c s.pins.fi ∈ t.pending ↔ loading s = false ∧ t.time.tickCount % 2048 = 0) ∧
      (Instr.fieldInputSample .b s.pins.fi ∈ t.pending ↔
        loading s = false ∧ t.time.tickCount % 256 = 0 ∧ t.time.tickCount % 2048 ≠ 0) ∧
      (Instr.fieldInputSample .a s.pins.fi ∈ t.pending ↔
        loading s = false ∧ t.time.tickCount % 32 = 0 ∧ t.time.tickCount % 256 ≠ 0) ∧
      (Instr.commonPeriodStart ∈ t.pending ↔ t.time.tickCount % 64 = 0) ∧
      (Instr.toneInstant .of32 ∈ t.pending ↔ loading s = false ∧ t.time.tickCount % 32 = 0) ∧
      (Instr.toneInstant .of16 ∈ t.pending ↔
        loading s = false ∧ t.time.tickCount % 16 = 0 ∧ t.time.tickCount % 32 ≠ 0) ∧
      t.pending.Nodup ∧
      (∀ c ∈ t.pending,
        c ∈ [.presenceTimerExpiry, .listenWindowEnd, .lineQuiet, .jamEvent, .endOfLoading, .cdiSample s.pins.cdi,
          .keySample s.pins.keys, .fieldInputSample .c s.pins.fi, .fieldInputSample .b s.pins.fi,
          .fieldInputSample .a s.pins.fi, .commonPeriodStart, .toneInstant .of32, .toneInstant .of16] ∨
        ∃ p : Fin 16, c = .lostTimerExpiry p) ∧
      t = { s with
            startup := { s.startup with cck := t.startup.cck }
            line := t.line
            access := { s.access with presenceTimer := t.access.presenceTimer }
            member := { s.member with listenTimer := t.member.listenTimer }
            peers := t.peers, time := t.time
            panel := { s.panel with hornPeriod := t.panel.hornPeriod, hornCut := t.panel.hornCut }
            pins := { s.pins with lrx := t.pins.lrx }
            pending := t.pending })

/-! ### Chapter 10: reset and start-up -/

/-- STATION_RESET in any state: the cause comes into force beside those in force already, and every block takes the reset values
of its chapter (Tables 11, 28, 38, 44, 47, 57, 62, 70, 79, 88). The pins and the queue of commands are outside the part (log
entry 2). That the 35 held cells are off under reset is the model's choice (log entry 34). -/
def Obligations.StationResetGivesResetValues : Prop :=
  ∀ (c : ResetCause) (s : State), ∃ t, exec (.stationReset c) s = .next t ∧
    inReset t = true ∧
    (t.startup.causes.powerOn = true ↔ s.startup.causes.powerOn = true ∨ c = .powerOn) ∧
    (t.startup.causes.resetPin = true ↔ s.startup.causes.resetPin = true ∨ c = .resetPin) ∧
    (t.startup.causes.supply = true ↔ s.startup.causes.supply = true ∨ c = .supply) ∧
    t.startup.ccs = true ∧ t.startup.cck = false ∧ t.startup.image = [] ∧ t.startup.period = .one ∧
    t.startup.configFault = false ∧ t.startup.supplyWarning = false ∧
    (∀ i : Fin 16, t.disagree[i] = 0 ∧ t.points[i] =
      { enabled := true, polarity := .abnormalWhenOpen, mode := .locking, cls := .b, group := .g0, condition := .normal,
        state := .quiet, version := 0, published := none, snapshot := none }) ∧
    t.list = [] ∧
    t.line.receiver = .off ∧ ltxDriven t = false ∧
    t.access = { rotation := 0, ladder := none, attempt := none, unheardWait := false, sequence := 0, failedCount := 0,
                 lineFault := false, presenceTimer := { running := false, ticks := 0 }, presencePending := false } ∧
    t.member = { own := .loading, listenTimer := { running := false, ticks := 0 }, helloQueued := false,
                 departPending := false, departFailures := 0, heldRecovery := false, returnState := none } ∧
    (∀ p : Fin 16, t.peers[p] =
      { state := .absent, lastSequence := none,
        flags := { configFault := false, supplyWarning := false, lineFault := false, solo := false },
        silence := { running := false, ticks := 0 } }) ∧
    (∀ p i : Fin 16, t.mirror.remote[p][i] = { content := none, group := .g0, stale := false, horn := false }) ∧
    (∀ i : Fin 16, t.mirror.ownHorn[i] = false) ∧ t.mirror.firstOut = { r1 := none, r2 := none, r3 := none } ∧
    t.keys = { kack := { pressed := false, disagree := 0 }, krst := { pressed := false, disagree := 0 },
               ksil := { pressed := false, disagree := 0 }, ktst := { pressed := false, disagree := 0 },
               testHeld := false } ∧
    t.queue = { entries := [], refused := false } ∧
    t.time = { tickCount := 0, wheel := 0, elapsed := none } ∧
    t.panel.lcdFrame = 0 ∧ t.panel.common = none ∧ (∀ k : Fin 35, t.panel.cells[k] = false) ∧
    t.panel.hornPeriod = none ∧ t.panel.tone = .continuous ∧
    alertnActive t = false ∧ faultnActive t = false ∧ sounding t = false ∧
    t.pins = s.pins ∧ t.pending = s.pending

/-- RELEASE_OF_RESET: the seven strap pins are read into the latch, a high pin as 1 and SN3 and LR1 as the most significant, and
the line clock follows; LOADING is in force with every count at 0, the read begins by CCS low exactly with CFGEN 1, and LCD
frame 0 begins with common 0 selected and every cell off. That it clears every cause, and selects common 0 itself, is the
model's deduction (log entries 15 and 17). That the check register holds all ones already then, with CFGEN 0 too, is the model's
choice (log entry 34). -/
def Obligations.ReleaseLatchesStraps : Prop :=
  ∀ (pins : StrapPins) (s : State), ResetHeld s → inReset s = true →
    ∃ t, exec (.releaseOfReset pins) s = .next t ∧
      inReset t = false ∧
      t.startup.straps.station.val =
        8 * pins.sn3.toNat + 4 * pins.sn2.toNat + 2 * pins.sn1.toNat + pins.sn0.toNat ∧
      t.startup.straps.lineRate.val = 2 * pins.lr1.toNat + pins.lr0.toNat ∧ t.startup.straps.cfgen = pins.cfgen ∧
      ownNumber t = t.startup.straps.station ∧
      stationLineClock t = 16 * (4800 * 2 ^ (2 * pins.lr1.toNat + pins.lr0.toNat)) ∧ loading t = true ∧
      readingImage t = pins.cfgen ∧ t.startup.ccs = !pins.cfgen ∧ t.startup.cck = false ∧ t.startup.image = [] ∧
      t.startup.check = 0xFFFF ∧ t.time.tickCount = 0 ∧ t.time.wheel = 0 ∧
      t.panel.lcdFrame = 0 ∧ t.panel.common = some 0 ∧ (∀ k : Fin 35, t.panel.cells[k] = false) ∧
      t = { s with
            startup := { s.startup with
                         causes := { powerOn := false, resetPin := false, supply := false }
                         straps := t.startup.straps, ccs := !pins.cfgen }
            panel := { s.panel with common := some 0 } }

/-- CDI_SAMPLE during the read: one bit joins the image at its tail, and goes through the check register if it is one of the
first 144. The level stands at CDI from then on (log entry 2). -/
def Obligations.CdiSampleTakesOneBit : Prop :=
  ∀ (level : Bool) (s : State), s.member.own = .loading → inReset s = false → s.startup.straps.cfgen = true →
    s.startup.image.length < 160 →
    ∃ t, exec (.cdiSample level) s = .next t ∧
      t.startup.image = s.startup.image ++ [level] ∧ t.startup.cck = true ∧
      (s.startup.image.length < 144 → t.startup.check = checkStep s.startup.check level) ∧
      (144 ≤ s.startup.image.length → t.startup.check = s.startup.check) ∧
      t = { s with
            startup := { s.startup with cck := true, image := t.startup.image, check := t.startup.check }
            pins := { s.pins with cdi := level } }

/-- Every step keeps it that during LOADING the check register is the check of bytes 0 to 17 as far as they are read. That it
holds all ones while reset is in force, and from then to bit 0, is the model's choice (log entry 34). -/
def Obligations.CheckRegisterFollowsTheImage : Prop :=
  ∀ (s t : State), CheckFormed s → step s = .next t → CheckFormed t

/-- END_OF_LOADING: CONFIG FAULT, the five configuration fields of each record and no other, P, the tone, the Line Interface in
WAIT on a BUSY line, and LISTEN with its window; WARNING at once if SUPPLY WARNING is set. That the image buffer is empty from
then on is the model's choice (log entry 21), and so is the listen timer at 0 in WARNING (log entry 27). That the next half-bit
window begins at the last tick is the model's choice (log entry 32). -/
def Obligations.EndOfLoadingStartsTheStation : Prop :=
  ∀ (s : State) (c : Config.Settings), LoadingQuiescent s → s.member.own = .loading → inReset s = false →
    (s.startup.straps.cfgen = true → s.startup.image.length = 160) →
    c = (if s.startup.straps.cfgen = true ∧ imageAccepted s.startup.image s.startup.check = true then
      imageSettings s.startup.image else Config.defaults) →
    ∃ t, exec .endOfLoading s = .next t ∧
      (t.startup.configFault = true ↔
        s.startup.straps.cfgen = true ∧ imageAccepted s.startup.image s.startup.check = false) ∧
      t.startup.period = c.period ∧ t.panel.tone = c.tone ∧
      (∀ i : Fin 16, t.points[i] =
        { enabled := c.points[i].enabled, polarity := c.points[i].polarity, mode := c.points[i].mode,
          cls := c.points[i].cls, group := c.points[i].group, condition := .normal, state := .quiet, version := 0,
          published := none, snapshot := none }) ∧
      t.line = { receiver := .wait, status := .busy, quietCount := 0, jamCount := 0, windows := .firstLineClock
                 decided := 0, windowPart := 0 } ∧
      t.member = { own := if s.startup.supplyWarning = true then .warning else .listen
                   listenTimer := { running := !s.startup.supplyWarning, ticks := 0 }
                   helloQueued := false, departPending := s.startup.supplyWarning, departFailures := 0
                   heldRecovery := false
                   returnState := if s.startup.supplyWarning = true then some .listen else none } ∧
      t = { s with
            startup := { s.startup with
                         ccs := true, cck := false, image := [], period := c.period
                         configFault := t.startup.configFault }
            points := t.points, line := t.line, member := t.member, panel := { s.panel with tone := c.tone } }

/-- Every configuration has an image (Table 84): it is 160 bits long, it is accepted with the check that the reader forms
over its first 144 bits, and it gives exactly that configuration. -/
def Obligations.ImageRoundTrip : Prop :=
  ∀ (c : Config.Settings),
    (imageOf c).length = 160 ∧ imageAccepted (imageOf c) (checkOf ((imageOf c).take 144)) = true ∧
      imageSettings (imageOf c) = c

/-! ### Chapter 1: field inputs and own points -/

/-- FIELD_INPUT_SAMPLE outside LOADING, for all sixteen points at once: the disagree counts of Table 9, the change of condition
at the fourth disagreeing sample, the move it makes, the appends in ascending index, the own rows' horn flags and the first-out
registers. A disabled point, or one of a longer class, keeps its record and its count. Where the sample leaves the sounding
condition false, the tone period in progress is to be cut at the next tick (log entry 19). The levels stand at FI from then on
(log entry 2). -/
def Obligations.FieldInputSampleDebouncesEveryPoint : Prop :=
  ∀ (longest : DebounceClass) (levels : Mask) (s : State), loading s = false →
    ∃ t, exec (.fieldInputSample longest levels) s = .next t ∧
      (∀ i : Fin 16,
        t.disagree[i] =
          (if s.points[i].enabled = false ∨ sampledAt longest s.points[i].cls = false then s.disagree[i]
           else if seenAt levels s i = s.points[i].condition ∨ s.disagree[i] = 3 then 0
           else s.disagree[i] + 1) ∧
        t.points[i] =
          moved (localMode s) (moveAt longest levels s i)
            (if changesAt longest levels s i = true then { s.points[i] with condition := seenAt levels s i }
             else s.points[i])) ∧
      t.list = s.list ++ (List.finRange 16).filter
        (fun i => (moveAt longest levels s i).isSome && !s.list.contains i) ∧
      (∀ i : Fin 16, t.mirror.ownHorn[i] =
        hornMoved (localMode s) (moveAt longest levels s i) s.points[i] s.mirror.ownHorn[i]) ∧
      RegistersMoved (localMode s) (moveAt longest levels s) s t ∧
      t = { s with
            disagree := t.disagree, points := t.points, list := t.list
            mirror := { s.mirror with ownHorn := t.mirror.ownHorn, firstOut := t.mirror.firstOut }
            panel := { s.panel with hornCut := hornCutAfter s t }
            pins := { s.pins with fi := levels } }

/-- A change of condition that the scanner takes moves the point as Tables 12 and 15 give, with the version of R17. -/
def Obligations.ConditionChangeMovesThePoint : Prop :=
  ∀ (longest : DebounceClass) (levels : Mask) (s : State) (i : Fin 16), loading s = false →
    changesAt longest levels s i = true →
    ∃ t, exec (.fieldInputSample longest levels) s = .next t ∧
      t.points[i].condition = seenAt levels s i ∧
      (s.points[i].mode = .locking → seenAt levels s i = .abnormal →
        s.points[i].state = .quiet ∨ s.points[i].state = .lapsed ∨ s.points[i].state = .cleared →
        t.points[i].state = .raised ∧ t.points[i].version = s.points[i].version + 1) ∧
      (s.points[i].mode = .locking → seenAt levels s i = .normal →
        (s.points[i].state = .raised → t.points[i].state = .lapsed) ∧
        (s.points[i].state = .held → t.points[i].state = .cleared) ∧
        t.points[i].version = s.points[i].version) ∧
      (s.points[i].mode = .following → seenAt levels s i = .abnormal → s.points[i].state = .quiet →
        t.points[i].state = .raised ∧ t.points[i].version = s.points[i].version + 1) ∧
      (s.points[i].mode = .following → seenAt levels s i = .normal →
        (s.points[i].state = .raised ∨ s.points[i].state = .held → t.points[i].state = .quiet) ∧
        t.points[i].version = s.points[i].version)

/-- A command changes the version of an own point exactly if it takes the point into RAISED, and then by one, modulo 256;
a station reset sets it to 0. -/
def Obligations.VersionChangesOnlyAtARaise : Prop :=
  ∀ (c : Instr) (s t : State) (i : Fin 16), exec c s = .next t →
    ((∀ cause, c ≠ .stationReset cause) →
      t.points[i].version =
        if t.points[i].state = .raised ∧ s.points[i].state ≠ .raised then s.points[i].version + 1
        else s.points[i].version) ∧
    ((∃ cause, c = .stationReset cause) → t.points[i].version = 0)

/-! ### Chapter 7: keys -/

/-- KEY_SAMPLE outside LOADING: the four keys are debounced, TEST held is true from a press of KTST to its release, and a sample
at which none of KACK, KRST and KSIL is pressed does nothing more, but that the tone period in progress is to be cut at the next
tick where the sounding condition is false (log entry 19). The levels stand at the key pins from then on (log entry 2). -/
def Obligations.KeySampleDebouncesTheKeys : Prop :=
  ∀ (levels : KeyPins) (s : State), loading s = false →
    ∃ t, exec (.keySample levels) s = .next t ∧
      t.keys.kack = keyAfter levels.kack s.keys.kack ∧ t.keys.krst = keyAfter levels.krst s.keys.krst ∧
      t.keys.ksil = keyAfter levels.ksil s.keys.ksil ∧ t.keys.ktst = keyAfter levels.ktst s.keys.ktst ∧
      t.keys.testHeld =
        (if t.keys.ktst.pressed = s.keys.ktst.pressed then s.keys.testHeld else t.keys.ktst.pressed) ∧
      (presses levels.kack s.keys.kack = false → presses levels.krst s.keys.krst = false →
        presses levels.ksil s.keys.ksil = false →
        t = { s with
              keys := t.keys, panel := { s.panel with hornCut := hornCutAfter s t }
              pins := { s.pins with keys := levels } }) ∧
      t = { s with
            points := t.points, list := t.list, mirror := t.mirror, keys := t.keys, queue := t.queue
            panel := { s.panel with hornCut := hornCutAfter s t }
            pins := { s.pins with keys := levels } }

/-- The claims of one KEY_SAMPLE on the own points, whichever keys it presses: KACK acknowledges every own point that is
RAISED or LAPSED, KRST then resets every own point that is CLEARED, and no other record changes. The list, the own rows' horn
flags and the registers follow the moves; KSIL clears every horn flag in local publication mode. -/
def Obligations.KeyClaimsOnOwnPoints : Prop :=
  ∀ (levels : KeyPins) (s : State) (kack krst ksil : Bool), loading s = false →
    presses levels.kack s.keys.kack = kack → presses levels.krst s.keys.krst = krst →
    presses levels.ksil s.keys.ksil = ksil →
    ∃ t, exec (.keySample levels) s = .next t ∧
      (∀ i : Fin 16,
        t.points[i] =
          moved (localMode s) (krstMove (localMode s) kack krst s.points[i])
            (afterKack (localMode s) kack s.points[i]) ∧
        t.mirror.ownHorn[i] =
          (s.mirror.ownHorn[i] && (kackMove kack s.points[i]).isNone &&
            (krstMove (localMode s) kack krst s.points[i]).isNone && !(ksil && localMode s))) ∧
      t.list =
        s.list ++
          ((List.finRange 16).filter fun i => (kackMove kack s.points[i]).isSome && !s.list.contains i) ++
          ((List.finRange 16).filter fun i =>
            (krstMove (localMode s) kack krst s.points[i]).isSome && (kackMove kack s.points[i]).isNone &&
              !s.list.contains i) ∧
      (∀ g ∈ [FirstOutGroup.g1, .g2, .g3],
        t.mirror.firstOut.get g =
          (List.finRange 16).foldl
            (fun held i =>
              registerMoved (localMode s) { owner := ownNumber s, index := i }
                (krstMove (localMode s) kack krst s.points[i]) (afterKack (localMode s) kack s.points[i]) g held)
            ((List.finRange 16).foldl
              (fun held i =>
                registerMoved (localMode s) { owner := ownNumber s, index := i } (kackMove kack s.points[i]) s.points[i] g
                  held)
              (s.mirror.firstOut.get g))) ∧
      (∀ p i : Fin 16, t.mirror.remote[p][i] =
        if ksil = true ∧ localMode s = true then { s.mirror.remote[p][i] with horn := false }
        else s.mirror.remote[p][i])

/-- The offers of one KEY_SAMPLE, whichever keys it presses: KACK offers, for each PRESENT peer with rows RAISED or LAPSED, an
ACK-REQ of exactly those rows with their versions in rising index, KRST a RESET-REQ of the CLEARED rows, KSIL a SILENCE, in
this order. After a press of KACK or KRST alone no entry is new but these requests, REQUEST REFUSED is clear exactly if every
one of them was taken, and the entries queued before keep their places. -/
def Obligations.KeyRequestsNameTheRows : Prop :=
  ∀ (levels : KeyPins) (s : State) (kack krst ksil : Bool), loading s = false →
    presses levels.kack s.keys.kack = kack → presses levels.krst s.keys.krst = krst →
    presses levels.ksil s.keys.ksil = ksil →
    ∃ t, exec (.keySample levels) s = .next t ∧
      t.queue =
        queueAfterPress ksil [.silence]
          (queueAfterPress krst (requestsFor .resetReq isCleared s)
            (queueAfterPress kack (requestsFor .ackReq unacked s) s.queue)) ∧
      (kack = true → krst = false → ksil = false →
        (∀ e ∈ t.queue.entries, e ∈ s.queue.entries ∨
          ∃ p : Fin 16, isPresent s p = true ∧ pairsFor unacked s p ≠ [] ∧
            e.request = .ackReq p (pairsFor unacked s p)) ∧
        (t.queue.refused = false ↔
          ∀ p : Fin 16, isPresent s p = true → pairsFor unacked s p ≠ [] →
            ∃ e ∈ t.queue.entries, e.request = .ackReq p (pairsFor unacked s p)) ∧
        (t.queue.refused = true → 16 ≤ t.queue.entries.length) ∧
        (s.queue.entries = [] → t.queue.refused = false)) ∧
      (krst = true → kack = false → ksil = false →
        (∀ e ∈ t.queue.entries, e ∈ s.queue.entries ∨
          ∃ p : Fin 16, isPresent s p = true ∧ pairsFor isCleared s p ≠ [] ∧
            e.request = .resetReq p (pairsFor isCleared s p)) ∧
        (t.queue.refused = false ↔
          ∀ p : Fin 16, isPresent s p = true → pairsFor isCleared s p ≠ [] →
            ∃ e ∈ t.queue.entries, e.request = .resetReq p (pairsFor isCleared s p)) ∧
        (t.queue.refused = true → 16 ≤ t.queue.entries.length) ∧
        (s.queue.entries = [] → t.queue.refused = false)) ∧
      (t.queue.entries.take s.queue.entries.length).map (fun e => (requestKind e.request, targetOf e.request)) =
        s.queue.entries.map fun e => (requestKind e.request, targetOf e.request)

/-- A press of KSIL offers a SILENCE, after what KACK and KRST of the same sample offer; in local publication mode every horn
flag clears at once, and in normal mode the remote rows stand. Pressed alone it changes nothing else, but that the tone period
in progress is to be cut where the sounding condition is left false (log entry 19). The levels stand at the key pins from then
on (log entry 2). -/
def Obligations.KsilOffersASilence : Prop :=
  ∀ (levels : KeyPins) (s : State), loading s = false → presses levels.ksil s.keys.ksil = true →
    ∃ t, exec (.keySample levels) s = .next t ∧
      ((∃ e ∈ t.queue.entries, e.request = .silence) ∧ t.queue.refused = false ∨
        16 ≤ t.queue.entries.length ∧ t.queue.refused = true) ∧
      (localMode s = false → t.mirror.remote = s.mirror.remote) ∧
      (localMode s = true →
        (∀ p i : Fin 16, t.mirror.remote[p][i] = { s.mirror.remote[p][i] with horn := false }) ∧
        ∀ i : Fin 16, t.mirror.ownHorn[i] = false) ∧
      (presses levels.kack s.keys.kack = false → presses levels.krst s.keys.krst = false →
        t.queue = offer { s.queue with refused := false } .silence ∧
        (localMode s = false → t.mirror = s.mirror) ∧ t.mirror.firstOut = s.mirror.firstOut ∧
        t = { s with
              mirror := t.mirror, keys := t.keys, queue := t.queue
              panel := { s.panel with hornCut := hornCutAfter s t }
              pins := { s.pins with keys := levels } })

/-- The three outcomes of an offer: merged into the entry of the same kind and target, which keeps its place; appended
while the queue holds fewer than 16 entries; refused. -/
def Obligations.OfferMergesAppendsOrRefuses : Prop :=
  ∀ (q : RequestQueue) (r : Request),
    ((∃ e ∈ q.entries, requestKind e.request = requestKind r ∧ targetOf e.request = targetOf r) →
      offer q r =
        { entries := q.entries.map fun e =>
            if requestKind e.request = requestKind r ∧ targetOf e.request = targetOf r then
              { request := r, inFlight := e.inFlight, merged := e.merged || e.inFlight } else e
          refused := q.refused }) ∧
    ((∀ e ∈ q.entries, ¬(requestKind e.request = requestKind r ∧ targetOf e.request = targetOf r)) →
      (q.entries.length < 16 →
        offer q r =
          { entries := q.entries ++ [{ request := r, inFlight := false, merged := false }], refused := q.refused }) ∧
      (16 ≤ q.entries.length → offer q r = { entries := q.entries, refused := true }))

/-! ### Chapters 2 and 4 to 8: received frames -/

/-- A valid frame of a peer, of any of the eight kinds: the peer's entry, GROUP and SOLO by the presence rule, the rotation, the
receiver to WAIT, the elapsed count absent, and the REFRESH-REQ of Table 45 (for a DEPART, see `DepartMarksThePeerDeparted`).
The quiet count and the jam count take every half of the frame (log entry 3): one half without carrier stands at its end if the
last check bit is 1, and the jam count has every BT of it. Where the frame leaves the sounding condition false, the tone period
in progress is to be cut at the next tick (log entry 19). Nothing outside the named parts changes. That the next half-bit window
begins at the last tick is the model's choice (log entry 32). -/
def Obligations.PeerFrameUpdatesThePeerEntry : Prop :=
  ∀ (f : Frame) (s : State), Hears f s → SoloCoherent s →
    ∃ t, exec (receiveCommand f) s = .next t ∧
      t.peers[f.header.sender] =
        { state := if bodyKind f.body = .depart then .departed else .present
          lastSequence := some f.header.sequence, flags := f.header.status
          silence := { running := bodyKind f.body != .depart, ticks := 0 } } ∧
      (∀ q : Fin 16, q ≠ f.header.sender → t.peers[q] = s.peers[q]) ∧
      t.line.receiver = .wait ∧
      (CountBelow s.line →
        t.line = { heardLine ((frameHalves f).drop s.line.decided) s.line with receiver := .wait }) ∧
      (s.line.status = .busy → s.line.decided = 8 →
        t.line.quietCount = (if lastCheckBit f = true then 1 else 0) ∧
        (s.line.jamCount.val + (frameLength f.body - 4) < 2048 →
          t.line.jamCount.val = s.line.jamCount.val + (frameLength f.body - 4))) ∧
      t.access = { s.access with rotation := f.header.sender + 1 } ∧
      t.time.elapsed = none ∧ t.time.tickCount = s.time.tickCount ∧
      t.member = { s.member with
                   own := if s.member.own = .group ∨ s.member.own = .solo then
                     (if ∃ q : Fin 16, q ≠ ownNumber s ∧ t.peers[q].state = .present then .group else .solo)
                     else s.member.own } ∧
      (bodyKind f.body ≠ .depart →
        ((s.peers[f.header.sender].state = .present ∧
            s.peers[f.header.sender].lastSequence.map (· + 1) = some f.header.sequence ∨
          s.peers[f.header.sender].state ≠ .present ∧ bodyKind f.body = .hello) → t.queue = s.queue) ∧
        ((s.peers[f.header.sender].state = .present ∧
            s.peers[f.header.sender].lastSequence.map (· + 1) ≠ some f.header.sequence ∨
          s.peers[f.header.sender].state ≠ .present ∧ bodyKind f.body ≠ .hello) →
            t.queue = offer s.queue (.refreshReq f.header.sender))) ∧
      t = { s with
            points := t.points, list := t.list, line := t.line, access := t.access, member := t.member, peers := t.peers
            mirror := t.mirror, queue := t.queue, time := t.time, panel := { s.panel with hornCut := hornCutAfter s t } }

/-- Adoption: the wheel is set to the carried phase plus the elapsed count (R143) exactly if the sender is the reference, the
lowest-numbered of the own station and the PRESENT peers as the Presence Table stands after the frame. Where the frame ends at
the very moment of a tick, a tick taken first is overwritten and one taken after it moves the new position by one, so that the
two orders differ by one tick (R144). That a tick which the adoption overwrites is not added with the elapsed count, and that
the pins hold the tick counts at which a frame ends, are the model's (log entry 29). -/
def Obligations.ReferenceFrameSetsTheWheel : Prop :=
  ∀ (f : Frame) (s : State) (n : Nat), Hears f s → s.time.elapsed = some n →
    ∃ t, exec (receiveCommand f) s = .next t ∧
      (isPresent t f.header.sender = true ∧ f.header.sender < ownNumber t ∧
          (∀ q : Fin 16, q < f.header.sender → isPresent t q = false) →
        (s.time.tickCount ∉ s.pins.frameEnds →
          t.time.wheel.val = (f.header.phaseStep.val * 2048 + f.header.phaseFine.toNat * 8 + n) % 32768) ∧
        (s.time.tickCount ∈ s.pins.frameEnds →
          t.time.wheel.val = (f.header.phaseStep.val * 2048 + f.header.phaseFine.toNat * 8 + (n - 1)) % 32768) ∧
        (s.pending = [] → inReset s = false → s.time.tickCount ∉ s.pins.frameEnds →
          s.time.tickCount + 1 ∈ s.pins.frameEnds →
          ∃ u, step t = .next u ∧ ∃ v, step s = .next v ∧ ∃ w, exec (receiveCommand f) v = .next w ∧
            u.time.wheel = w.time.wheel + 1)) ∧
      (¬(isPresent t f.header.sender = true ∧ f.header.sender < ownNumber t ∧
          (∀ q : Fin 16, q < f.header.sender → isPresent t q = false)) →
        t.time.wheel = s.time.wheel)

/-- The mask of a PRESENCE vacates the rows whose value is no, with their registers, and a HELLO vacates every row of its
sender and asks for an own full refresh. The rows of other stations, the own records and the own flags stand. -/
def Obligations.MaskAndHelloVacateRows : Prop :=
  ∀ (h : Header) (m : Mask) (s : State), s.line.receiver = .frame → h.sender ≠ ownNumber s →
    (∃ t, exec (.receivePresence h m) s = .next t ∧
      (∀ i : Fin 16, t.mirror.remote[h.sender][i] =
        if m[i] = true then returned (s.peers[h.sender].state == .present) s.mirror.remote[h.sender][i]
        else { content := none, group := .g0, stale := false, horn := false }) ∧
      (∀ p i : Fin 16, p ≠ h.sender → t.mirror.remote[p][i] = s.mirror.remote[p][i]) ∧
      t.mirror.firstOut = s.mirror.firstOut.dropIf (fun q => q.owner == h.sender && !m[q.index]) ∧
      t.mirror.ownHorn = s.mirror.ownHorn ∧ t.points = s.points ∧ t.list = s.list) ∧
    (∃ t, exec (.receiveHello h m) s = .next t ∧
      (∀ i : Fin 16, t.mirror.remote[h.sender][i] =
        { content := none, group := .g0, stale := false, horn := false }) ∧
      (∀ p i : Fin 16, p ≠ h.sender → t.mirror.remote[p][i] = s.mirror.remote[p][i]) ∧
      t.mirror.firstOut = s.mirror.firstOut.dropIf (fun q => q.owner == h.sender) ∧
      t.mirror.ownHorn = s.mirror.ownHorn ∧ t.points = s.points ∧ t.list = refreshed s s.list)

/-- Each entry of an ANNOUNCE gives its row the state, version and group it carries, takes the stale mark away, and sets
the horn flag by Table 55; the other rows of the sender only lose their stale mark, if the sender has returned. -/
def Obligations.AnnounceWritesTheRows : Prop :=
  ∀ (h : Header) (es : List AnnounceEntry) (s : State), Hears { header := h, body := .announce es } s →
    ∃ t, exec (.receiveAnnounce h es) s = .next t ∧
      (∀ e ∈ es, t.mirror.remote[h.sender][e.index] = rowAfterEntry s.mirror.remote[h.sender][e.index] e) ∧
      (∀ i : Fin 16, i ∉ es.map (·.index) →
        t.mirror.remote[h.sender][i] =
          returned (s.peers[h.sender].state == .present) s.mirror.remote[h.sender][i]) ∧
      (∀ p i : Fin 16, p ≠ h.sender → t.mirror.remote[p][i] = s.mirror.remote[p][i]) ∧
      t.mirror.ownHorn = s.mirror.ownHorn ∧ t.points = s.points ∧ t.list = s.list

/-- The entries of an ANNOUNCE act on the register of each group one after another: group change and empty, then take or
adopt. Each is tested against its row as it stood before the frame. -/
def Obligations.AnnounceActsOnFirstOutRegisters : Prop :=
  ∀ (h : Header) (es : List AnnounceEntry) (s : State) (g : FirstOutGroup),
    Hears { header := h, body := .announce es } s →
    ∃ t, exec (.receiveAnnounce h es) s = .next t ∧
      t.mirror.firstOut.get g =
        es.foldl (fun r e => registerAfterEntry { owner := h.sender, index := e.index }
          s.mirror.remote[h.sender][e.index] g r e) (s.mirror.firstOut.get g)

/-- The pairs of an ACK-REQ or RESET-REQ to this station are claims: a pair of equal version moves an enabled point by
Tables 13, 14 and 16, and every other record stands. A request to another station touches no own point. That the claims of a
frame that takes the station from SOLO to GROUP are taken in the publication mode of GROUP is the model's deduction (log
entry 9). -/
def Obligations.RequestPairsAreClaims : Prop :=
  ∀ (h : Header) (target : StationNo) (pairs : List ReqPair) (s : State), s.line.receiver = .frame →
    h.sender ≠ ownNumber s → pairsInRange pairs = true →
    (∃ t, exec (.receiveAckReq h target pairs) s = .next t ∧
      (target = ownNumber s →
        (∀ i : Fin 16, t.points[i] =
          moved (localMode t)
            (claimMove acknowledgeMove (pairs.contains { index := i, version := s.points[i].version }) s.points[i])
            s.points[i]) ∧
        t.list = s.list ++ (List.finRange 16).filter
          (fun i => (claimMove acknowledgeMove (pairs.contains { index := i, version := s.points[i].version })
            s.points[i]).isSome && !s.list.contains i) ∧
        (∀ i : Fin 16, t.mirror.ownHorn[i] =
          (s.mirror.ownHorn[i] &&
            (claimMove acknowledgeMove (pairs.contains { index := i, version := s.points[i].version }) s.points[i]).isNone)) ∧
        RegistersMoved (localMode t)
          (fun i =>
            claimMove acknowledgeMove (pairs.contains { index := i, version := s.points[i].version }) s.points[i]) s t) ∧
      (target ≠ ownNumber s →
        t.points = s.points ∧ t.list = s.list ∧ t.mirror.ownHorn = s.mirror.ownHorn ∧
        t.mirror.firstOut = s.mirror.firstOut) ∧
      (∀ p i : Fin 16, t.mirror.remote[p][i] =
        returned (p != h.sender || s.peers[h.sender].state == .present) s.mirror.remote[p][i])) ∧
    (∃ t, exec (.receiveResetReq h target pairs) s = .next t ∧
      (target = ownNumber s →
        (∀ i : Fin 16, t.points[i] =
          moved (localMode t)
            (claimMove resetMove (pairs.contains { index := i, version := s.points[i].version }) s.points[i])
            s.points[i]) ∧
        t.list = s.list ++ (List.finRange 16).filter
          (fun i => (claimMove resetMove (pairs.contains { index := i, version := s.points[i].version })
            s.points[i]).isSome && !s.list.contains i) ∧
        (∀ i : Fin 16, t.mirror.ownHorn[i] =
          (s.mirror.ownHorn[i] &&
            (claimMove resetMove (pairs.contains { index := i, version := s.points[i].version }) s.points[i]).isNone)) ∧
        RegistersMoved (localMode t)
          (fun i =>
            claimMove resetMove (pairs.contains { index := i, version := s.points[i].version }) s.points[i]) s t) ∧
      (target ≠ ownNumber s →
        t.points = s.points ∧ t.list = s.list ∧ t.mirror.ownHorn = s.mirror.ownHorn ∧
        t.mirror.firstOut = s.mirror.firstOut) ∧
      (∀ p i : Fin 16, t.mirror.remote[p][i] =
        returned (p != h.sender || s.peers[h.sender].state == .present) s.mirror.remote[p][i]))

/-- An acknowledge and a reset claim of equal version on an enabled point, for each state and mode (Tables 13, 14, 16),
and neither on a version that differs. -/
def Obligations.ClaimsFollowTheirTables : Prop :=
  ∀ (i : Fin 16) (v : Version) (s : State), s.points[i].enabled = true →
    (v ≠ s.points[i].version → acknowledge i v s = s ∧ resetClaim i v s = s) ∧
    (v = s.points[i].version →
      (s.points[i].state = .raised → (acknowledge i v s).points[i].state = .held ∧ resetClaim i v s = s) ∧
      (s.points[i].mode = .locking → s.points[i].state = .lapsed →
        (acknowledge i v s).points[i].state = .cleared ∧ resetClaim i v s = s ∧
        (resetClaim i v (acknowledge i v s)).points[i].state = .quiet ∧
        (acknowledge i v (resetClaim i v s)).points[i].state = .cleared) ∧
      (s.points[i].mode = .locking → s.points[i].state = .cleared →
        (resetClaim i v s).points[i].state = .quiet ∧ acknowledge i v s = s) ∧
      (s.points[i].state = .quiet ∨ s.points[i].state = .held → acknowledge i v s = s ∧ resetClaim i v s = s) ∧
      (s.points[i].mode = .following → resetClaim i v s = s) ∧
      (acknowledge i v s).points[i].version = v ∧ (resetClaim i v s).points[i].version = v)

/-- A SILENCE from a peer clears every horn flag and changes no row otherwise, but for the stale marks of a returned
sender; a REFRESH-REQ lists every enabled own point if it is addressed to this station, and nothing if not. -/
def Obligations.SilenceAndRefreshRequest : Prop :=
  ∀ (h : Header) (target : StationNo) (s : State), s.line.receiver = .frame → h.sender ≠ ownNumber s →
    (∃ t, exec (.receiveSilence h) s = .next t ∧
      (∀ p i : Fin 16, t.mirror.remote[p][i] =
        { returned (p != h.sender || s.peers[h.sender].state == .present) s.mirror.remote[p][i] with horn := false }) ∧
      (∀ i : Fin 16, t.mirror.ownHorn[i] = false) ∧ t.mirror.firstOut = s.mirror.firstOut ∧
      t.points = s.points ∧ t.list = s.list) ∧
    (∃ t, exec (.receiveRefreshReq h target) s = .next t ∧
      t.list = (if target = ownNumber s then refreshed s s.list else s.list) ∧
      (∀ p i : Fin 16, t.mirror.remote[p][i] =
        returned (p != h.sender || s.peers[h.sender].state == .present) s.mirror.remote[p][i]) ∧
      t.mirror.ownHorn = s.mirror.ownHorn ∧ t.mirror.firstOut = s.mirror.firstOut ∧ t.points = s.points)

/-- A DEPART: the entry becomes DEPARTED, the rows of the sender that are not VACANT become stale and keep the rest, the
requests that target it go, and the own points are caught up where the station becomes SOLO. From an entry that is DEPARTED
already, rows, queue and records stand. That an entry to SOLO while LINE FAULT is set takes no catch-up, because local
publication mode holds already, is the model's choice (log entry 31). -/
def Obligations.DepartMarksThePeerDeparted : Prop :=
  ∀ (h : Header) (s : State), s.line.receiver = .frame → h.sender ≠ ownNumber s →
    ∃ t, exec (.receiveDepart h) s = .next t ∧ t.list = s.list ∧
      t.peers[h.sender].state = .departed ∧ t.peers[h.sender].silence = { running := false, ticks := 0 } ∧
      (s.peers[h.sender].state = .departed →
        t.mirror.remote = s.mirror.remote ∧ t.queue = s.queue ∧
        (SoloCoherent s → t.points = s.points ∧ t.mirror = s.mirror ∧ t.member = s.member)) ∧
      (s.peers[h.sender].state ≠ .departed →
        (∀ p i : Fin 16, t.mirror.remote[p][i] =
          if p = h.sender then
            { s.mirror.remote[p][i] with
              stale := s.mirror.remote[p][i].stale || s.mirror.remote[p][i].content.isSome }
          else s.mirror.remote[p][i]) ∧
        t.queue = { s.queue with
                    entries := s.queue.entries.filter fun e => targetOf e.request != some h.sender } ∧
        (s.member.own ≠ .group → t.points = s.points ∧ t.mirror.firstOut = s.mirror.firstOut) ∧
        CaughtUp s t)

/-- A valid frame that bears the own number, of any kind: DUPLICATE with its marks and timers, the rotation, the own points
caught up where local publication mode begins, and no other block. The counts of the line take the halves of the frame, which is
the one on LRX or a free one with the own number (log entries 3 and 28), so that one half without carrier or none stands at its
end. That a command of a peer's kind that bears the own number is taken as RECEIVE_OWN_NUMBER_FRAME is the model's choice (log
entry 8); so are the return state, absent in DUPLICATE (log entry 13), and the listen timer, stopped at 0 (log entry 27). That
an entry to DUPLICATE while LINE FAULT is set takes no catch-up, because local publication mode holds already, is the model's
choice (log entry 31). That the next half-bit window begins at the last tick is the model's choice (log entry 32). -/
def Obligations.OwnNumberFrameMakesDuplicate : Prop :=
  ∀ (s : State), s.line.receiver = .frame → s.member.own ≠ .loading →
    ∃ t, exec .receiveOwnNumberFrame s = .next t ∧
      (∀ f : Frame, bodyInRange f.body = true → f.header.sender = ownNumber s →
        ∃ u, exec (receiveCommand f) s = .next u ∧ u = { t with line := u.line, pins := s.pins } ∧
          u.line.receiver = .wait ∧
          (CountBelow s.line →
            u.line = { heardLine ((frameHalves f).drop s.line.decided) s.line with receiver := .wait })) ∧
      t.line.receiver = .wait ∧
      (let f := ownNumberFrame s
       bodyInRange f.body = true ∧ f.header.sender = ownNumber s ∧
       (CountBelow s.line →
         t.line = { heardLine ((frameHalves f).drop s.line.decided) s.line with receiver := .wait }) ∧
       (s.line.status = .busy → s.line.decided = 8 →
         t.line.quietCount = (if lastCheckBit f = true then 1 else 0) ∧
         (s.line.jamCount.val + (frameLength f.body - 4) < 2048 →
           t.line.jamCount.val = s.line.jamCount.val + (frameLength f.body - 4)))) ∧
      (∀ g : Frame, receiveHalves (halvesOn s.pins (halvesOfFrame s.pins)) = .valid g → g.header.sender = ownNumber s →
        ownNumberFrame s = g ∧ t.pins = { s.pins with lrx := s.pins.lrx.drop (halvesOfFrame s.pins) }) ∧
      (ownFrameOnLrx s = none →
        ownNumberFrame s = freeOwnFrame s ∧ t.pins = { s.pins with untold := s.pins.untold + 1 }) ∧
      (s.member.own = .duplicate →
        t = { s with line := t.line, access := { s.access with rotation := ownNumber s + 1 }, pins := t.pins }) ∧
      (s.member.own ≠ .duplicate →
        t.access = { s.access with
                     rotation := ownNumber s + 1, presenceTimer := { running := false, ticks := 0 }
                     presencePending := false } ∧
        t.member = { own := .duplicate, listenTimer := { running := false, ticks := 0 }, helloQueued := false
                     departPending := false, departFailures := s.member.departFailures, heldRecovery := false
                     returnState := none } ∧
        CaughtUp s t ∧
        t = { s with
              points := t.points, line := t.line, access := t.access, member := t.member, pins := t.pins
              mirror := { s.mirror with ownHorn := t.mirror.ownHorn, firstOut := t.mirror.firstOut } })

/-- A damaged frame sets the rotation to 0, makes the elapsed count absent and sends the receiver to WAIT, and nothing more; the
counts of the line take its halves. That these are the halves on LRX up to the first at which the receiver delivers an event, a
lost carrier in the first BT where LRX shows nothing, and that a RECEIVE command with a field out of range is taken as
DAMAGED_FRAME with its own halves, are the model's choices (log entries 3 and 7). That the next half-bit window begins at the
last tick is the model's choice (log entry 32). -/
def Obligations.DamagedFrameSetsRotationZero : Prop :=
  ∀ (s : State), s.line.receiver = .frame →
    (∃ t, exec .damagedFrame s = .next t ∧
      t.line.receiver = .wait ∧
      (CountBelow s.line →
        t.line = { heardLine (halvesOn s.pins (halvesOfFrame s.pins)) s.line with receiver := .wait }) ∧
      (∀ k ∈ List.range 341, 0 < k → 2 * k < halvesOfFrame s.pins →
        receiveHalves (halvesOn s.pins (2 * k)) = .unfinished) ∧
      (s.pins.lrx = [] → halvesOfFrame s.pins = 2) ∧
      t = { s with
            line := t.line, access := { s.access with rotation := 0 }
            time := { s.time with elapsed := none }
            pins := { s.pins with lrx := s.pins.lrx.drop (halvesOfFrame s.pins) } }) ∧
    (∀ f : Frame, bodyInRange f.body = false →
      ∃ t, exec (receiveCommand f) s = .next t ∧
        t.line.receiver = .wait ∧
        (CountBelow s.line →
          t.line = { heardLine ((frameHalves f).drop s.line.decided) s.line with receiver := .wait }) ∧
        t = { s with
              line := t.line, access := { s.access with rotation := 0 }, time := { s.time with elapsed := none } })

/-! ### Chapter 2: line and receiver events -/

/-- LINE_BUSY ends the ladder and the wait after an unheard attempt, and marks an attempt as heard; LINE_QUIET clears the jam
count, sends the receiver from WAIT to IDLE and starts a ladder at slot 0; a ladder, held as its repeat number and the first
slot that has not begun (log entries 11 and 20), repeats from slot 0, and one starts 12 BT after an unheard attempt. That the
next half-bit window begins at the last tick is the model's choice (log entry 32). That LINE_QUIET is taken at every quiet count
and sets its last value itself, and that LINE_BUSY counts one decided half more, are the model's choices (log entry 3); so is it
that LINE_BUSY during an attempt counts as a half of that attempt and makes it heard (log entries 30 and 33). -/
def Obligations.LadderFollowsTheLineStatus : Prop :=
  ∀ (s : State),
    (s.line.status = .quiet → s.line.receiver = .mark ∨ s.line.receiver = .transmit →
      ∃ t, exec .lineBusy s = .next t ∧
        t = { s with
              line := { s.line with status := .busy, quietCount := 0, decided := s.line.decided + 1, windowPart := 0 }
              access := { s.access with
                          ladder := none, unheardWait := false
                          attempt := s.access.attempt.map fun a => { a with heard := true } } }) ∧
    (s.line.status = .busy → s.line.receiver = .wait →
      ∃ t, exec .lineQuiet s = .next t ∧
        t = { s with
              line := { s.line with status := .quiet, quietCount := 24, jamCount := 0, receiver := .idle }
              access := { s.access with ladder := some { rep := 0, nextSlot := 0 } } }) ∧
    (∀ l ∈ s.access.ladder, s.line.status = .quiet → s.access.attempt = none →
      ∃ t, exec .ladderRepeat s = .next t ∧
        t = { s with access := { s.access with ladder := some { rep := l.rep + 1, nextSlot := 0 } } }) ∧
    (s.access.unheardWait = true → s.line.status = .quiet → s.access.attempt = none →
      ∃ t, exec .ladderStartAfterUnheardAttempt s = .next t ∧
        t = { s with access := { s.access with ladder := some { rep := 0, nextSlot := 0 }, unheardWait := false } })

/-- Table 23 between IDLE, MARK, FRAME and WAIT: the first high sample, the spike, unframed carrier and the start of frame, at
which the elapsed count starts from 0. A start of frame leaves two halves without carrier and four BT counted; unframed carrier
counts the halves after the first up to the one that departs from the start mark, which are those on LRX (log entry 3, the
model's choice). That the next half-bit window begins at the last tick is the model's choice (log entry 32). -/
def Obligations.ReceiverFollowsTheStartMark : Prop :=
  ∀ (s : State),
    (s.line.receiver = .idle →
      ∃ t, exec .firstHighSample s = .next t ∧
        t = { s with
              line := { s.line with receiver := .mark, windows := .highSample, decided := 0, windowPart := 0 } }) ∧
    (s.line.receiver = .mark → s.line.status = .quiet →
      ∃ t, exec .spike s = .next t ∧ t = { s with line := { s.line with receiver := .idle } }) ∧
    (s.line.receiver = .mark → s.line.status = .busy →
      (∃ t, exec .unframedCarrier s = .next t ∧
        ∃ n ∈ List.range 8, 1 ≤ n ∧
          (∀ j ∈ List.range (n - 1), (halvesOn s.pins n)[j]? = startMark[j + 1]?) ∧
          (n < 7 → (halvesOn s.pins n)[n - 1]? ≠ startMark[n]?) ∧
          t.line.receiver = .wait ∧
          (CountBelow s.line → t.line = { heardLine (halvesOn s.pins n) s.line with receiver := .wait }) ∧
          t = { s with line := t.line, pins := { s.pins with lrx := s.pins.lrx.drop n } }) ∧
      ∃ t, exec .startOfFrame s = .next t ∧
        t.line.receiver = .frame ∧
        (s.line.decided = 1 → s.line.jamCount.val < 2044 →
          t.line = { s.line with
                     receiver := .frame, quietCount := 2, jamCount := s.line.jamCount + 4, decided := 8
                     windowPart := 0 }) ∧
        t = { s with line := t.line, time := { s.time with elapsed := some 0 } })

/-- JAM_EVENT sets LINE FAULT, fills the jam count, and catches up where local publication mode begins. While the jam count
stands at 2048 no second one is taken (log entry 5), and no command and no tick takes it from there but LINE_QUIET, a station
reset and the start of the Line Interface at the end of LOADING. That JAM_EVENT is taken at every jam count but 2048, and sets
the last value itself, is the model's choice (log entry 3). -/
def Obligations.JamSetsLineFault : Prop :=
  ∀ (s : State),
    (s.line.status = .busy → s.line.receiver ≠ .off → s.line.jamCount ≠ 2048 → s.access.attempt = none →
      ∃ t, exec .jamEvent s = .next t ∧
        t.access = { s.access with lineFault := true } ∧ t.line = { s.line with jamCount := 2048 } ∧ CaughtUp s t ∧
        t = { s with
              points := t.points, line := t.line, access := t.access
              mirror := { s.mirror with ownHorn := t.mirror.ownHorn, firstOut := t.mirror.firstOut } }) ∧
    (s.line.jamCount = 2048 →
      exec .jamEvent s = .next s ∧
      (s.pending = [] → ∃ t, step s = .next t ∧ t.line.jamCount = 2048) ∧
      ∀ (c : Instr) (t : State), exec c s = .next t → c ≠ .lineQuiet → c ≠ .endOfLoading →
        (∀ cause, c ≠ .stationReset cause) → t.line.jamCount = 2048)

/-- Every frame is read back from its own transmission, whatever follows it on the line: the start mark is found, and the
receiver delivers the same frame. The transmission has the length of Table 25. -/
def Obligations.FrameRoundTrip : Prop :=
  ∀ (f : Frame) (rest : List Bool), bodyInRange f.body = true →
    (frameHalves f).length = 2 * frameLength f.body ∧ markOutcome (frameHalves f) = .startMark ∧
      receiveHalves ((frameHalves f).drop 8 ++ rest) = .valid f

/-! ### Chapters 3 and 5: slots and attempts -/

/-- Two stations of different number that hold the same rotation never own the same ladder slot; the urgent slots are 0 to
15 and the routine slots 16 to 31. -/
def Obligations.NoTwoStationsShareASlot : Prop :=
  ∀ (s t : State) (c d : FrameClass), s.access.rotation = t.access.rotation →
    (ownNumber s ≠ ownNumber t → slotNumber c s ≠ slotNumber d t) ∧
    slotNumber .urgent s < 16 ∧ slotNumber .routine s = slotNumber .urgent s + 16 ∧
    (slotNumber .urgent s + s.access.rotation.val) % 16 = (ownNumber s).val

/-- SLOT_START in a state that may transmit, with a choice that suits a slot that has not begun in this run of the ladder (log
entry 11): the attempt begins, with the frame of the first item of Table 34 that is present, the own number, the own sequence
and the status flags of the moment. That the phase fields are 0 until they are sampled is the model's choice (log entry 12).
That the next half-bit window begins at the last tick is the model's choice (log entry 32). -/
def Obligations.SlotBeginsTheChosenFrame : Prop :=
  ∀ (cls : FrameClass) (s : State), mayTransmit s = true →
    (∃ l ∈ s.access.ladder, l.nextSlot ≤ slotNumber cls s) →
    (∃ c ∈ choice s, cls = .routine ∨ kindClass (choiceKind c) = .urgent) →
    ∃ t, exec (.slotStart cls) s = .next t ∧ t.access.attempt.isSome = true ∧
      (∀ a ∈ t.access.attempt,
        a = { frame := { header := { sender := ownNumber s, sequence := s.access.sequence, phaseStep := 0, phaseFine := 0
                                     status := { configFault := s.startup.configFault
                                                 supplyWarning := s.startup.supplyWarning
                                                 lineFault := s.access.lineFault
                                                 solo := decide (s.member.own = .solo) } }
                         body := a.frame.body }
              phaseSampled := false, heard := false, collision := none } ∧
        (s.member.departPending = true → a.frame.body = .depart) ∧
        (s.member.departPending = false → s.list ≠ [] → bodyKind a.frame.body = .announce) ∧
        (s.member.departPending = false → s.list = [] → ∀ e ∈ s.queue.entries.head?,
          a.frame.body = requestBody e.request ∧
          t.queue = { s.queue with
                      entries := { e with inFlight := true, merged := false } :: s.queue.entries.tail }) ∧
        (s.member.departPending = false → s.list = [] → s.queue.entries = [] → s.member.helloQueued = true →
          a.frame.body = .hello (enabledMask s)) ∧
        (s.member.departPending = false → s.list = [] → s.queue.entries = [] → s.member.helloQueued = false →
          a.frame.body = .presence (enabledMask s))) ∧
      (∀ i : Fin 16, (enabledMask s)[i] = s.points[i].enabled) ∧
      (∀ a ∈ t.access.attempt,
        (isRequest a.frame.body = false → t.queue = s.queue) ∧
        (bodyKind a.frame.body ≠ .announce → t.points = s.points)) ∧
      t = { s with
            points := t.points, queue := t.queue
            line := { s.line with receiver := .transmit, windows := .ownAttempt, decided := 0, windowPart := 0 }
            access := { s.access with ladder := none, attempt := t.access.attempt } }

/-- SLOT_START passes without an attempt where the station may not transmit, has nothing to send, or would send a routine
frame in its urgent slot; that a slot which has begun in this run of the ladder does not begin again is kept by the model's
count of log entry 11. -/
def Obligations.SlotPassesWithoutAttempt : Prop :=
  ∀ (cls : FrameClass) (s : State), ∀ l ∈ s.access.ladder, l.nextSlot ≤ slotNumber cls s →
    (mayTransmit s = false ∨ choice s = none ∨
      (cls = .urgent ∧ ∃ c ∈ choice s, kindClass (choiceKind c) = .routine)) →
    ∃ t, exec (.slotStart cls) s = .next t ∧ exec (.slotStart cls) t = .next t ∧
      t = { s with access := { s.access with ladder := some { l with nextSlot := slotNumber cls s + 1 } } }

/-- The build of an ANNOUNCE: one entry for each listed point, in list order, with the record's state, version and group
and the first-out mark, and for each of those points and no other a snapshot of what its entry carries. -/
def Obligations.AnnounceIsBuiltFromTheList : Prop :=
  ∀ (cls : FrameClass) (s : State), mayTransmit s = true → s.member.departPending = false → s.list ≠ [] →
    (∃ l ∈ s.access.ladder, l.nextSlot ≤ slotNumber cls s) →
    ∃ t, exec (.slotStart cls) s = .next t ∧
      t.access.attempt.map (·.frame.body) =
        some (.announce (s.list.map fun i =>
          { index := i, state := s.points[i].state, group := s.points[i].group
            mark := decide (s.points[i].group ≠ .g0 ∧
              s.mirror.firstOut.get s.points[i].group = some { owner := ownNumber s, index := i })
            version := s.points[i].version })) ∧
      (∀ i : Fin 16, t.points[i] =
        if i ∈ s.list then
          { s.points[i] with snapshot := some { state := s.points[i].state, version := s.points[i].version } }
        else s.points[i]) ∧
      t.list = s.list ∧ t.queue = s.queue ∧ t.mirror = s.mirror

/-- At the end of its start mark an attempt takes the wheel into the phase fields, once, and not after a collision that came
before it; the carried phase is a multiple of 8 that lies at most 7 ticks behind the wheel. An attempt that is sampled or has
had such a collision stays as it is, and so does a station without an attempt (log entry 5). The counts of the line take the
start mark (log entry 3). That the next half-bit window begins at the last tick is the model's choice (log entry 32). -/
def Obligations.StartMarkEndSamplesThePhase : Prop :=
  ∀ (s : State), (s.access.attempt = none → exec .ownStartMarkEnd s = .next s) ∧ ∀ a ∈ s.access.attempt,
    (a.phaseSampled = true ∨ a.collision ≠ none ∧ a.collision ≠ some 8 → exec .ownStartMarkEnd s = .next s) ∧
    (a.phaseSampled = false → a.collision = none ∨ a.collision = some 8 →
    ∃ t, exec .ownStartMarkEnd s = .next t ∧ exec .ownStartMarkEnd t = .next t ∧
      (∃ b ∈ t.access.attempt,
        b.frame.header.phaseStep.val = s.time.wheel.val / 2048 ∧
        b.frame.header.phaseFine.toNat = s.time.wheel.val % 2048 / 8 ∧
        carriedPhase b.frame.header % 8 = 0 ∧ carriedPhase b.frame.header ≤ s.time.wheel.val ∧
        s.time.wheel.val ≤ carriedPhase b.frame.header + 7 ∧
        b = { a with
              phaseSampled := true
              frame := { a.frame with
                         header := { a.frame.header with
                                     phaseStep := b.frame.header.phaseStep, phaseFine := b.frame.header.phaseFine } } }) ∧
      (CountBelow s.line → t.line = heardLine (startMark.drop s.line.decided) s.line) ∧
      t = { s with line := t.line, access := { s.access with attempt := t.access.attempt } })

/-- COLLISION marks the attempt once, at a half of its transmission, which is heard as the first that differs: one that was not
decided before, or the last half of the start mark, at whose end OWN_START_MARK_END falls too; these two then give the same
outcome in either order. The half after it is still sent as built, if there is one, and nothing beyond. Once marked, no
COLLISION at any half changes the station (log entry 5). The counts of the line take the halves so heard (log entry 3). That the
next half-bit window begins at the last tick is the model's choice (log entry 32). -/
def Obligations.CollisionEndsTheTransmission : Prop :=
  ∀ (half : Nat) (s : State), ∀ a ∈ s.access.attempt, a.collision = none →
    s.line.decided < half ∨ a.phaseSampled = true ∧ half = 8 ∧ s.line.decided = 8 →
    half ≤ 2 * frameLength a.frame.body →
    ∃ t, exec (.collision half) s = .next t ∧
      t = { s with line := t.line, access := { s.access with attempt := some { a with collision := some half } } } ∧
      (s.line.decided < half → CountBelow s.line →
        t.line = heardLine ((heardToCollision a.frame half).drop s.line.decided) s.line) ∧
      (s.line.decided = half →
        t.line = { s.line with quietCount := if s.line.status = .busy then 0 else s.line.quietCount }) ∧
      (a.phaseSampled = false → half = 8 →
        ∃ u, exec .ownStartMarkEnd t = .next u ∧
          ∃ v, exec .ownStartMarkEnd s = .next v ∧ exec (.collision half) v = .next u) ∧
      t.line.decided = half ∧ firstDifference (frameHalves a.frame) (heardToCollision a.frame half) = some half ∧
      (∀ h : Nat, exec (.collision h) t = .next t) ∧
      (sentHalves a.frame (some half)).length = min (half + 1) (2 * frameLength a.frame.body) ∧
      sentHalves a.frame (some half) <+: frameHalves a.frame

/-- The success of an attempt: sequence, failed-attempt count, LINE FAULT with its full refresh, rotation, presence timer (which
a DEPART leaves stopped) and the receiver. The counts of the line take the whole frame (log entry 3). Other blocks change only
by the report, but that the tone period in progress is to be cut where the sounding condition is left false (log entry 19). That
the next half-bit window begins at the last tick is the model's choice (log entry 32). -/
def Obligations.SuccessStepsAreTaken : Prop :=
  ∀ (s : State), ∀ a ∈ s.access.attempt, a.collision = none → a.phaseSampled = true → a.heard = true →
    ∃ t, exec .attemptSuccess s = .next t ∧
      t.line.receiver = .wait ∧
      (CountBelow s.line →
        t.line = { heardLine ((frameHalves a.frame).drop s.line.decided) s.line with receiver := .wait }) ∧
      (s.line.status = .busy → s.line.decided + 2 ≤ 2 * frameLength a.frame.body →
        t.line.quietCount = if lastCheckBit a.frame = true then 1 else 0) ∧
      t.access = { s.access with
                   attempt := none, sequence := s.access.sequence + 1, failedCount := 0, lineFault := false
                   rotation := ownNumber s + 1, presenceTimer := t.access.presenceTimer, presencePending := false } ∧
      (bodyKind a.frame.body ≠ .depart → t.access.presenceTimer = { running := true, ticks := 0 }) ∧
      (s.access.lineFault = true → ∀ i : Fin 16, s.points[i].enabled = true → i ∈ t.list) ∧
      (s.access.lineFault = true → bodyKind a.frame.body ≠ .announce → t.list = refreshed s s.list) ∧
      (bodyKind a.frame.body ≠ .depart → bodyKind a.frame.body ≠ .hello → t.member = s.member) ∧
      (isRequest a.frame.body = false → t.queue = s.queue) ∧
      (bodyKind a.frame.body ≠ .announce → bodyKind a.frame.body ≠ .depart →
        t.points = s.points ∧ t.mirror.firstOut = s.mirror.firstOut ∧
        (bodyKind a.frame.body ≠ .silence → t.mirror = s.mirror)) ∧
      (s.access.lineFault = false → bodyKind a.frame.body ≠ .announce → bodyKind a.frame.body ≠ .hello →
        t.list = s.list) ∧
      t = { s with
            points := t.points, list := t.list, line := t.line, access := t.access, member := t.member
            mirror := t.mirror, queue := t.queue, panel := { s.panel with hornCut := hornCutAfter s t } }

/-- The snapshot rule at the success of an ANNOUNCE: an included point that still has its snapshot is published with it
and loses it, and leaves the list exactly if it has not changed since; then the full refresh, if LINE FAULT was set, and
the catch-up, if local publication mode holds. At each publication the own row's horn flag and the first-out registers follow,
in the order of the frame and then of the list. That the refresh comes before the catch-up, so that points listed by it are
caught up too, is the model's deduction (log entry 10). -/
def Obligations.SnapshotRule : Prop :=
  ∀ (s : State) (a : Attempt) (es : List AnnounceEntry), s.access.attempt = some a → a.frame.body = .announce es →
    a.collision = none → a.phaseSampled = true → a.heard = true → (es.map (·.index)).Nodup →
    (∀ i : Fin 16, s.points[i].snapshot.isSome = true → i ∈ es.map (·.index)) →
    ∃ t, exec .attemptSuccess s = .next t ∧
      t.list =
        (if s.access.lineFault = true then
          refreshed s (s.list.filter fun i => s.points[i].snapshot != some (pairOf s.points[i]))
         else s.list.filter fun i => s.points[i].snapshot != some (pairOf s.points[i])) ∧
      CaughtUpFrom (localMode t) t.list (ownNumber s) (fun i => settled s.points[i])
        (fun i => hornSettled s.points[i] s.mirror.ownHorn[i])
        (fun g =>
          es.foldl (fun held e => registerSettled { owner := ownNumber s, index := e.index } s.points[e.index] g held)
            (s.mirror.firstOut.get g)) t ∧
      t.mirror.remote = s.mirror.remote

/-- The outcome of an attempt built from the head of the Request Queue: at a success the entry goes, or stays unmarked if
an offer was merged into it meanwhile; at a failure it stays unmarked; an entry no longer queued is not missed. A SILENCE
that succeeds is a silence publication. -/
def Obligations.RequestOutcomes : Prop :=
  ∀ (s : State), ∀ a ∈ s.access.attempt, isRequest a.frame.body = true →
    (a.collision = none → a.phaseSampled = true → a.heard = true →
      ∃ t, exec .attemptSuccess s = .next t ∧
        t.queue.refused = s.queue.refused ∧
        (∀ e ∈ s.queue.entries.head?, e.inFlight = true → e.merged = false →
          t.queue.entries = s.queue.entries.tail) ∧
        (∀ e ∈ s.queue.entries.head?, e.inFlight = true → e.merged = true →
          t.queue.entries = { e with inFlight := false, merged := false } :: s.queue.entries.tail) ∧
        ((∀ e ∈ s.queue.entries.head?, e.inFlight = false) → t.queue.entries = s.queue.entries) ∧
        (bodyKind a.frame.body = .silence →
          (∀ p i : Fin 16, t.mirror.remote[p][i] = { s.mirror.remote[p][i] with horn := false }) ∧
          ∀ i : Fin 16, t.mirror.ownHorn[i] = false) ∧
        (bodyKind a.frame.body ≠ .silence → t.mirror = s.mirror) ∧ t.points = s.points) ∧
    (a.collision ≠ none →
      ∃ t, exec .attemptFailure s = .next t ∧
        t.queue.refused = s.queue.refused ∧
        (∀ e ∈ s.queue.entries.head?, e.inFlight = true →
          t.queue.entries = { e with inFlight := false, merged := false } :: s.queue.entries.tail) ∧
        ((∀ e ∈ s.queue.entries.head?, e.inFlight = false) → t.queue.entries = s.queue.entries))

/-- The failure of an attempt: failed-attempt count, LINE FAULT at 16, rotation 0, WAIT or IDLE, and the half after the
collision, if there is one still to decide, as it is on LRX (log entry 3, the model's choice), whatever the frame. Where it was
no DEPART the presence timer stands, the snapshots of an ANNOUNCE are discarded and no entry leaves the list, and the own points
are caught up where local publication mode holds at the end of an ANNOUNCE attempt or begins. The tone period in progress is to
be cut where the sounding condition is left false (log entry 19). That the next half-bit window begins at the last tick is the
model's choice (log entry 32). That the receiver goes to IDLE and the line stays QUIET where the attempt was not heard, even if
the half after the collision is a carrier half, is the model's choice (log entry 30). -/
def Obligations.FailureStepsAreTaken : Prop :=
  ∀ (s : State), ∀ a ∈ s.access.attempt, a.collision ≠ none →
    ∃ t, exec .attemptFailure s = .next t ∧
      t.line.receiver = (if a.heard = true then .wait else .idle) ∧
      (∀ h ∈ a.collision,
        ∃ n ∈ List.range 2, (n = 1 ↔ s.line.decided ≤ h ∧ h < 2 * frameLength a.frame.body) ∧
          t.pins = { s.pins with lrx := s.pins.lrx.drop n } ∧
          (CountBelow s.line →
            t.line = { heardLine (halvesOn s.pins n) s.line with
                       receiver := if a.heard = true then .wait else .idle })) ∧
      t.access.failedCount.val = min (s.access.failedCount.val + 1) 16 ∧
      (t.access.lineFault = true ↔ s.access.lineFault = true ∨ s.access.failedCount = 15) ∧
      t.access = { s.access with
                   attempt := none, failedCount := t.access.failedCount, lineFault := t.access.lineFault
                   rotation := 0, unheardWait := !a.heard, presenceTimer := t.access.presenceTimer
                   presencePending := t.access.presencePending } ∧
      t.list = s.list ∧ t.mirror.remote = s.mirror.remote ∧
      (bodyKind a.frame.body ≠ .depart →
        t.access.presenceTimer = s.access.presenceTimer ∧ t.access.presencePending = s.access.presencePending ∧
        CaughtUpFrom (localMode t && (bodyKind a.frame.body == .announce || !localMode s)) s.list (ownNumber s)
          (fun i =>
            { s.points[i] with
              snapshot := if bodyKind a.frame.body = .announce then none else s.points[i].snapshot })
          (fun i => s.mirror.ownHorn[i]) s.mirror.firstOut.get t ∧
        (isRequest a.frame.body = false → t.queue = s.queue) ∧
        t = { s with
              points := t.points, line := t.line, access := t.access
              mirror := { s.mirror with ownHorn := t.mirror.ownHorn, firstOut := t.mirror.firstOut }
              queue := t.queue, panel := { s.panel with hornCut := hornCutAfter s t }, pins := t.pins })

/-- A HELLO that succeeds is dequeued and lists every enabled own point. A DEPART that succeeds takes the station to
DEPARTED, and on to LISTEN if a recovery is held; one that fails is withdrawn if a recovery is held, counted if not, and
given up at the fourth failure. The presence timer stops where the station enters DEPARTED or LISTEN and runs on otherwise. What
a failed DEPART does to the rest of the Access Controller and to the line, see `FailureStepsAreTaken`; the tone period in
progress is to be cut where it leaves the sounding condition false (log entry 19). That the return state is absent after WARNING
is the model's deduction (log entry 13). -/
def Obligations.HelloAndDepartOutcomes : Prop :=
  ∀ (s : State), ∀ a ∈ s.access.attempt,
    (bodyKind a.frame.body = .hello → a.collision = none → a.phaseSampled = true → a.heard = true →
      ∃ t, exec .attemptSuccess s = .next t ∧ t.member = { s.member with helloQueued := false } ∧
        t.list = refreshed s s.list ∧ t.queue = s.queue) ∧
    (bodyKind a.frame.body = .depart → a.collision = none → a.phaseSampled = true → a.heard = true →
      ∃ t, exec .attemptSuccess s = .next t ∧
        t.access.presenceTimer = { running := false, ticks := 0 } ∧ t.access.presencePending = false ∧
        (s.member.heldRecovery = false → t.member.own = .departed) ∧
        (s.member.heldRecovery = true → s.startup.supplyWarning = false →
          t.member.own = .listen ∧ t.member.listenTimer = { running := true, ticks := 0 }) ∧
        (s.startup.supplyWarning = false ∨ s.member.heldRecovery = false →
          t.member.departPending = false ∧ t.member.helloQueued = false ∧ t.member.heldRecovery = false ∧
          t.member.returnState = none ∧ t.points = s.points ∧ t.mirror = s.mirror) ∧ t.queue = s.queue) ∧
    (bodyKind a.frame.body = .depart → a.collision ≠ none →
      ∃ t, exec .attemptFailure s = .next t ∧ t.queue = s.queue ∧ t.list = s.list ∧
        (s.member.heldRecovery = false → s.member.departFailures.val < 3 →
          t.member = { s.member with departFailures := s.member.departFailures + 1 } ∧
          t.access.presenceTimer = s.access.presenceTimer ∧
          t.access.presencePending = s.access.presencePending) ∧
        (s.member.heldRecovery = false → 3 ≤ s.member.departFailures.val →
          t.member.own = .departed ∧ t.member.departPending = false ∧
          t.access.presenceTimer = { running := false, ticks := 0 } ∧ t.access.presencePending = false) ∧
        (s.member.heldRecovery = true → s.startup.supplyWarning = false →
          t.member.departPending = false ∧ t.member.heldRecovery = false ∧
          t.member.departFailures = s.member.departFailures ∧
          (s.member.returnState = some .listen →
            t.member.own = .listen ∧
            t.access.presenceTimer = { running := false, ticks := 0 } ∧ t.access.presencePending = false) ∧
          (s.member.returnState = some .group →
            (t.member.own = if ∃ p : Fin 16, isPresent s p = true then .group else .solo) ∧
            t.access.presenceTimer = s.access.presenceTimer ∧
            t.access.presencePending = s.access.presencePending)) ∧
        (s.startup.supplyWarning = false ∨ s.member.heldRecovery = false → CaughtUp s t) ∧
        t = { s with
              points := t.points, line := t.line, access := t.access, member := t.member
              mirror := { s.mirror with ownHorn := t.mirror.ownHorn, firstOut := t.mirror.firstOut }
              panel := { s.panel with hornCut := hornCutAfter s t }, pins := t.pins })

/-! ### Chapters 4 and 10: timers and the supply -/

/-- The presence timer that has reached P stops there with PRESENCE pending. The end of the listen window, at 2P, queues HELLO,
enters GROUP or SOLO by the Presence Table, starts the presence timer, and catches up where local publication mode begins. An
expiry of a timer that is not at its length is not taken (log entry 5). That the listen timer stops at 0 is the model's choice
(log entry 27). That an entry to SOLO while LINE FAULT is set takes no catch-up, because local publication mode holds already,
is the model's choice (log entry 31). -/
def Obligations.PresenceAndListenTimersExpire : Prop :=
  ∀ (s : State),
    (s.access.presenceTimer = { running := true, ticks := presencePeriod s } →
      ∃ t, exec .presenceTimerExpiry s = .next t ∧
        t = { s with
              access := { s.access with
                          presenceTimer := { running := false, ticks := presencePeriod s }, presencePending := true } }) ∧
    (s.access.presenceTimer ≠ { running := true, ticks := presencePeriod s } →
      exec .presenceTimerExpiry s = .next s) ∧
    (s.member.own = .listen → s.member.listenTimer = { running := true, ticks := listenWindow s } →
      ∃ t, exec .listenWindowEnd s = .next t ∧
        t.member = { s.member with
                     own := if ∃ p : Fin 16, isPresent s p = true then .group else .solo
                     listenTimer := { running := false, ticks := 0 }, helloQueued := true } ∧
        t.access = { s.access with presenceTimer := { running := true, ticks := 0 }, presencePending := false } ∧
        CaughtUp s t ∧
        t = { s with
              points := t.points, access := t.access, member := t.member
              mirror := { s.mirror with ownHorn := t.mirror.ownHorn, firstOut := t.mirror.firstOut } }) ∧
    (s.member.own ≠ .listen ∨ s.member.listenTimer ≠ { running := true, ticks := listenWindow s } →
      exec .listenWindowEnd s = .next s)

/-- LOST_TIMER_EXPIRY, of a timer that has reached 3P: the entry becomes LOST with its timer stopped at 0 and its sequence and
flags kept; rows, requests and the own state follow as for a departure, and the own points are caught up where local publication
mode begins. An expiry of a timer that is not at its length is not taken (log entry 5): a frame taken first has started the
timer again, and the entry stays PRESENT. That an entry to SOLO while LINE FAULT is set takes no catch-up, because local
publication mode holds already, is the model's choice (log entry 31). -/
def Obligations.LostTimerMakesThePeerLost : Prop :=
  ∀ (p : Fin 16) (s : State), p ≠ ownNumber s → s.peers[p].state = .present → SoloCoherent s →
    (s.peers[p].silence.ticks ≠ lostLength s → exec (.lostTimerExpiry p) s = .next s) ∧
    (∀ h : Header, h.sender = p → s.line.receiver = .frame →
      ∃ t, exec (.receiveSilence h) s = .next t ∧ t.peers[p].state = .present ∧
        exec (.lostTimerExpiry p) t = .next t) ∧
    (s.peers[p].silence = { running := true, ticks := lostLength s } →
    ∃ t, exec (.lostTimerExpiry p) s = .next t ∧
      t.peers[p] = { s.peers[p] with state := .lost, silence := { running := false, ticks := 0 } } ∧
      (∀ q : Fin 16, q ≠ p → t.peers[q] = s.peers[q]) ∧
      (∀ q i : Fin 16, t.mirror.remote[q][i] =
        if q = p then
          { s.mirror.remote[q][i] with
            stale := s.mirror.remote[q][i].stale || s.mirror.remote[q][i].content.isSome }
        else s.mirror.remote[q][i]) ∧
      t.queue = { s.queue with entries := s.queue.entries.filter fun e => targetOf e.request != some p } ∧
      t.member = { s.member with
                   own := if s.member.own = .group ∧ ∀ q : Fin 16, isPresent t q = false then .solo
                     else s.member.own } ∧
      CaughtUp s t ∧
      t = { s with points := t.points, member := t.member, peers := t.peers, mirror := t.mirror, queue := t.queue })

/-- SUPPLY_WARNING_EVENT sets the flag in every state outside reset; LISTEN, GROUP and SOLO go to WARNING with DEPART pending
and their return state, a held recovery in WARNING is cancelled, and no other state changes. The own points are caught up where
local publication mode begins. That the listen timer stops at 0 is the model's choice (log entry 27). That an entry to WARNING
while LINE FAULT is set takes no catch-up, because local publication mode holds already, is the model's choice (log entry
31). -/
def Obligations.SupplyWarningEntersWarning : Prop :=
  ∀ (s : State), inReset s = false → s.startup.supplyWarning = false →
    ∃ t, exec .supplyWarningEvent s = .next t ∧
      (s.member.own = .listen ∨ s.member.own = .group ∨ s.member.own = .solo →
        t.member = { own := .warning, listenTimer := { running := false, ticks := 0 }
                     helloQueued := s.member.helloQueued, departPending := true, departFailures := 0
                     heldRecovery := s.member.heldRecovery
                     returnState := some (if s.member.own = .listen then .listen else .group) }) ∧
      (s.member.own = .warning → t.member = { s.member with heldRecovery := false }) ∧
      (s.member.own = .loading ∨ s.member.own = .departed ∨ s.member.own = .duplicate → t.member = s.member) ∧
      CaughtUp s t ∧
      t = { s with
            startup := { s.startup with supplyWarning := true }, points := t.points, member := t.member
            mirror := { s.mirror with ownHorn := t.mirror.ownHorn, firstOut := t.mirror.firstOut } }

/-- SUPPLY_RECOVERY_EVENT clears the flag in every state outside reset. In WARNING it is held while a DEPART is in flight,
and otherwise withdraws the DEPART and returns the station to where it came from; in DEPARTED it opens a listen window; no
other state changes. The presence timer and PRESENCE pending run on unchanged where the recovery is held and at the return to
GROUP or SOLO. That the return state is absent after WARNING is the model's deduction (log entry 13). -/
def Obligations.SupplyRecoveryLeavesWarning : Prop :=
  ∀ (s : State), inReset s = false → s.startup.supplyWarning = true →
    ∃ t, exec .supplyRecoveryEvent s = .next t ∧
      (s.member.own = .warning → departInFlight s = true →
        t.member = { s.member with heldRecovery := true } ∧ t.access = s.access) ∧
      (s.member.own = .warning → departInFlight s = false → s.member.returnState = some .group →
        t.member = { s.member with
                     own := if ∃ p : Fin 16, isPresent s p = true then .group else .solo
                     departPending := false, heldRecovery := false, returnState := none } ∧
        t.access = s.access) ∧
      (s.member.own = .departed ∨
          s.member.own = .warning ∧ departInFlight s = false ∧ s.member.returnState = some .listen →
        t.member = { own := .listen, listenTimer := { running := true, ticks := 0 }, helloQueued := false
                     departPending := false, departFailures := s.member.departFailures, heldRecovery := false
                     returnState := none } ∧
        t.access = { s.access with presenceTimer := { running := false, ticks := 0 }, presencePending := false }) ∧
      (s.member.own ≠ .warning → s.member.own ≠ .departed → t.member = s.member ∧ t.access = s.access) ∧
      t = { s with
            startup := { s.startup with supplyWarning := false }, access := t.access, member := t.member }

/-! ### Chapter 9: the panel -/

/-- COMMON_PERIOD_START: the next common is selected, a new frame begins after common 7, and its cells are taken: off in
LOADING, on while TEST is held, and else by the pattern of their row, entry or condition at the wheel's step. -/
def Obligations.CommonPeriodTakesTheCells : Prop :=
  ∀ (c : Fin 8) (s : State), inReset s = false → s.panel.common = some c →
    ∃ t, exec .commonPeriodStart s = .next t ∧
      t.panel.common = some (c + 1) ∧
      t.panel.lcdFrame = (if c = 7 then s.panel.lcdFrame + 1 else s.panel.lcdFrame) ∧
      (loading s = true → ∀ k : Fin 35, t.panel.cells[k] = false) ∧
      (loading s = false → s.keys.testHeld = true → ∀ k : Fin 35, t.panel.cells[k] = true) ∧
      (loading s = false → s.keys.testHeld = false →
        (∀ p i : Fin 16, i.val % 8 = (c + 1).val →
          t.panel.cells[(Fin.ofNat 35 (2 * p.val + i.val / 8))] =
            patternOn (pointPattern (rowOf s p i) (isFirstOut s { owner := p, index := i }))
              (wheelStep s.time.wheel)) ∧
        (∀ p : Fin 16, p.val % 8 = (c + 1).val →
          t.panel.cells[(Fin.ofNat 35 (32 + p.val / 8))] =
            patternOn (presencePattern s p) (wheelStep s.time.wheel)) ∧
        t.panel.cells[(34 : Fin 35)] = localIcon s (c + 1)) ∧
      t = { s with
            panel := { s.panel with common := t.panel.common, lcdFrame := t.panel.lcdFrame, cells := t.panel.cells } }

/-- TONE_INSTANT outside LOADING: HORN stays low while the sounding condition is false. While it is true, a low period runs on
through an instant of period 16, at which its count is 16 (log entry 19, the model's deduction). At every other instant the
period in progress, if any, is over, or is cut off (log entry 19), and a tone begins at an instant of its own period: the high
one where CONTINUOUS is set or FAST is on, so that steady sounding goes from period to period and changes its tone with the
warble selection. -/
def Obligations.ToneBeginsAtItsOwnInstant : Prop :=
  ∀ (k : ToneInstant) (s : State), loading s = false →
    ∃ t, exec (.toneInstant k) s = .next t ∧
      (sounding s = false → t.panel.hornPeriod = none ∧ hornHigh t = false) ∧
      (sounding s = true →
        s.panel.hornPeriod = none ∨ s.panel.hornCut = true ∨ k = .of32 ∨
          s.panel.hornPeriod.map (·.tone) = some .high →
        (s.panel.tone = .continuous ∨ s.time.wheel.val / 2048 % 4 < 2 →
          t.panel.hornPeriod = some { tone := .high, elapsed := 0 } ∧ hornHigh t = true) ∧
        (s.panel.tone = .warble → 2 ≤ s.time.wheel.val / 2048 % 4 →
          (k = .of16 → t.panel.hornPeriod = none ∧ hornHigh t = false) ∧
          (k = .of32 → t.panel.hornPeriod = some { tone := .low, elapsed := 0 } ∧ hornHigh t = true))) ∧
      (sounding s = true → s.panel.hornCut = false → s.panel.hornPeriod.map (·.tone) = some .low → k = .of16 →
        t.panel.hornPeriod = some { tone := .low, elapsed := 16 } ∧ hornHigh t = false) ∧
      t = { s with panel := { s.panel with hornPeriod := t.panel.hornPeriod, hornCut := false } }

/-- What the glass and the common outputs show. The six patterns are on in the wheel steps of Table 68, WARBLE follows FAST; a
point cell has the pattern of Table 75, a presence icon that of Table 76, and a local icon the condition of Table 77. A
selected common stands at VLCD or VSS and an other at a quarter from the far end, by the polarity of the frame; a segment stands
at the end away from the selected common where its cell is on, and half way where it is off (Table 73). The horn demand, the
silenced condition, ALERTN and FAULTN hold exactly where a row, a record or an entry makes them. -/
def Obligations.PanelShowsWhatStands : Prop :=
  ∀ (s : State) (step : Fin 16) (row : MirrorRow) (firstOut : Bool) (p : Fin 16) (c : Fin 8) (k : Fin 35),
    (patternOn .off step = false ∧ patternOn .steady step = true ∧
      (patternOn .fast step = true ↔ step ∈ [0, 1, 4, 5, 8, 9, 12, 13]) ∧
      (patternOn .slow step = true ↔ step ∈ [0, 1, 2, 3, 4, 5, 6, 7]) ∧
      (patternOn .brokenFast step = true ↔ step ∈ [0, 1, 4, 5, 8, 9]) ∧
      (patternOn .wink step = true ↔ step ∈ [0, 1]) ∧
      (warble step = .high ↔ patternOn .fast step = true)) ∧
    (row.content = none → pointPattern row firstOut = .off) ∧
    (∀ pair ∈ row.content,
      (pair.state = .quiet → pointPattern row firstOut = .off) ∧
      (pair.state ≠ .quiet → row.stale = true → pointPattern row firstOut = .wink) ∧
      (row.stale = false →
        (unacked pair.state = true → pointPattern row firstOut = if firstOut = true then .brokenFast else .fast) ∧
        (pair.state = .held → pointPattern row firstOut = if firstOut = true then .slow else .steady) ∧
        (pair.state = .cleared → pointPattern row firstOut = .slow))) ∧
    (p = ownNumber s → presencePattern s p = .steady) ∧
    (p ≠ ownNumber s →
      (s.peers[p].state = .absent → presencePattern s p = .off) ∧
      (s.peers[p].state = .present → s.peers[p].flags = noFlags → presencePattern s p = .steady) ∧
      (s.peers[p].state = .present → s.peers[p].flags ≠ noFlags → presencePattern s p = .slow) ∧
      (s.peers[p].state = .lost → presencePattern s p = .fast) ∧
      (s.peers[p].state = .departed → presencePattern s p = .wink)) ∧
    ((localIcon s 0 = true ↔ s.startup.configFault = true) ∧ (localIcon s 1 = true ↔ s.access.lineFault = true) ∧
      (localIcon s 2 = true ↔ s.member.own = .duplicate) ∧ (localIcon s 3 = true ↔ s.startup.supplyWarning = true) ∧
      (localIcon s 4 = true ↔ s.member.own = .solo) ∧ (localIcon s 5 = true ↔ s.queue.refused = true) ∧
      (localIcon s 6 = true ↔ silencedCondition s = true) ∧ (localIcon s 7 = true ↔ s.keys.testHeld = true)) ∧
    (s.panel.common = none → comLevel s c = 0 ∧ segLevel s k = 0) ∧
    (∀ sel ∈ s.panel.common,
      (s.panel.lcdFrame % 2 = 0 →
        comLevel s c = (if c = sel then 4 else 1) ∧ segLevel s k = if s.panel.cells[k] = true then 0 else 2) ∧
      (s.panel.lcdFrame % 2 = 1 →
        comLevel s c = (if c = sel then 0 else 3) ∧ segLevel s k = if s.panel.cells[k] = true then 4 else 2)) ∧
    (hornDemand s = true ↔
      (∃ q i : Fin 16, (rowOf s q i).horn = true) ∨
        ∃ i : Fin 16, s.points[i].enabled = true ∧ (s.points[i].state = .raised ∨ s.points[i].state = .lapsed) ∧
          s.points[i].published.map (·.version) ≠ some s.points[i].version) ∧
    (silencedCondition s = true ↔
      (∃ q i : Fin 16, ∃ pair ∈ (rowOf s q i).content, pair.state = .raised ∨ pair.state = .lapsed) ∧
        hornDemand s = false) ∧
    (alertnActive s = true ↔
      loading s = false ∧
        ∃ q i : Fin 16, (rowOf s q i).stale = false ∧
          ∃ pair ∈ (rowOf s q i).content, pair.state = .raised ∨ pair.state = .lapsed) ∧
    (faultnActive s = true ↔
      loading s = false ∧
        (s.startup.configFault = true ∨ s.access.lineFault = true ∨ s.member.own = .duplicate ∨
          s.startup.supplyWarning = true ∨
          ∃ q : Fin 16, q ≠ ownNumber s ∧ (s.peers[q].state = .lost ∨ s.peers[q].state = .departed)))

/-! ### What every step keeps -/

/-- The machine right after reset meets every invariant; its strap latch, its stopped line, its held cells and its check
register hold the model's values (log entries 4, 16 and 34). -/
def Obligations.ResetMeetsEveryInvariant : Prop := Sound State.reset

/-- While reset is in force every block holds its reset values, and every step keeps it so. That the strap latch then holds 0
and the line status BUSY with its counts at 0 is the model's choice (log entries 4 and 16), and so are the held cells, all off,
and the check register, all ones (log entry 34). -/
def Obligations.ResetHoldsEveryBlock : Prop :=
  ∀ (s t : State), ResetHeld s → step s = .next t → ResetHeld t

/-- The station drives carrier only in GROUP, SOLO and WARNING, and every step keeps it so, with the agreement of receiver,
line, ladder, attempt and membership that it rests on. That a return state stands in WARNING only is the model's deduction (log
entry 13), and that the stopped line of LOADING holds BUSY with its counts at 0 its choice (log entry 16). -/
def Obligations.CarrierOnlyWherePermitted : Prop :=
  ∀ (s t : State),
    LoadingQuiescent s ∧ LineCoherent s ∧ MembershipCoherent s ∧ ReturnToListen s ∧ AttemptPermitted s →
    step s = .next t →
    LoadingQuiescent t ∧ LineCoherent t ∧ MembershipCoherent t ∧ ReturnToListen t ∧ AttemptPermitted t

/-- The Request Queue never holds more than 16 entries, nor two entries of the same kind and target; every entry with a target
names a PRESENT station, every list is in range, only the head is in flight, while an attempt of its kind is in progress, and
only an entry in flight is merged. Every step keeps it so, with the agreement of reset, LOADING and line that it rests on. That
the strap latch under reset holds 0, and the stopped line BUSY with its counts at 0, is the model's choice (log entries 4 and
16), and so are the held cells and the check register under reset (log entry 34). -/
def Obligations.QueueStaysBounded : Prop :=
  ∀ (s t : State), step s = .next t →
    (QueueBounded s.queue → QueueBounded t.queue) ∧
    (ResetHeld s ∧ LoadingQuiescent s ∧ LineCoherent s ∧ QueueCoherent s →
      ResetHeld t ∧ LoadingQuiescent t ∧ LineCoherent t ∧ QueueCoherent t)

/-- The list holds each point at most once and enabled points only, a disabled record keeps its reset values, a FOLLOWING point
is never LAPSED or CLEARED, and the condition of a record agrees with its state; every step keeps it so. That the stopped line
of LOADING holds BUSY with its counts at 0 is the model's choice (log entry 16). -/
def Obligations.OwnPointsStayCoherent : Prop :=
  ∀ (s t : State), LoadingQuiescent s ∧ PointsCoherent s ∧ ListCoherent s → step s = .next t →
    LoadingQuiescent t ∧ PointsCoherent t ∧ ListCoherent t

/-- A snapshot stands only while an ANNOUNCE that carries that very pair is in flight, and its point is listed; every step keeps
it so. That the stopped line of LOADING holds BUSY with its counts at 0 is the model's choice (log entry 16). -/
def Obligations.SnapshotEqualsWhatTheFrameCarries : Prop :=
  ∀ (s t : State), LoadingQuiescent s ∧ LineCoherent s ∧ SnapshotsInFlight s → step s = .next t →
    LoadingQuiescent t ∧ LineCoherent t ∧ SnapshotsInFlight t

/-- The station is SOLO exactly while no peer is PRESENT, the lost timers run exactly for PRESENT peers, and a remote row is
stale exactly if it is not VACANT and its owner is LOST or DEPARTED; every step keeps it so. That the strap latch under reset
holds 0, and the stopped line BUSY with its counts at 0, is the model's choice (log entries 4 and 16), and so are the held cells
and the check register under reset (log entry 34). -/
def Obligations.PresenceAndRowsAgree : Prop :=
  ∀ (s t : State), ResetHeld s ∧ LoadingQuiescent s ∧ PeersCoherent s ∧ SoloCoherent s ∧ RowsCoherent s →
    step s = .next t → ResetHeld t ∧ LoadingQuiescent t ∧ PeersCoherent t ∧ SoloCoherent t ∧ RowsCoherent t

/-- The point that a first-out register holds belongs to its group, and its row is neither QUIET nor VACANT; every step
keeps it so. -/
def Obligations.FirstOutHoldsARaisedPoint : Prop :=
  ∀ (s t : State),
    ResetHeld s ∧ LoadingQuiescent s ∧ PointsCoherent s ∧ ListCoherent s ∧ PeersCoherent s ∧ RowsCoherent s ∧
      FirstOutCoherent s →
    step s = .next t → FirstOutCoherent t

/-- The sequence counter moves only at a success, by one; the rotation only at a frame's end, a damaged frame or an
attempt's end; LINE FAULT is set only by a jam or the sixteenth failure, and cleared only by a success; a station reset
takes all three to their reset values. -/
def Obligations.AccessChangesOnlyAtItsEvents : Prop :=
  ∀ (c : Instr) (s t : State), exec c s = .next t →
    ((∀ cause, c ≠ .stationReset cause) →
      (t.access.sequence ≠ s.access.sequence → c = .attemptSuccess ∧ t.access.sequence = s.access.sequence + 1) ∧
      (t.access.rotation ≠ s.access.rotation →
        s.line.receiver = .frame ∧ t.line.receiver = .wait ∨ c = .attemptSuccess ∨ c = .attemptFailure) ∧
      (s.access.lineFault = false → t.access.lineFault = true →
        c = .jamEvent ∨ c = .attemptFailure ∧ s.access.failedCount = 15) ∧
      (s.access.lineFault = true → t.access.lineFault = false → c = .attemptSuccess)) ∧
    ((∃ cause, c = .stationReset cause) →
      t.access.sequence = 0 ∧ t.access.rotation = 0 ∧ t.access.lineFault = false)

/-- The five configuration fields of every record, P and the tone change only at the end of LOADING and at a station
reset, and the latched straps only at the release of reset and at a station reset. -/
def Obligations.ConfigurationIsFixed : Prop :=
  ∀ (c : Instr) (s t : State), exec c s = .next t → (∀ cause, c ≠ .stationReset cause) →
    (c ≠ .endOfLoading →
      (∀ i : Fin 16,
        t.points[i].enabled = s.points[i].enabled ∧ t.points[i].polarity = s.points[i].polarity ∧
        t.points[i].mode = s.points[i].mode ∧ t.points[i].cls = s.points[i].cls ∧
        t.points[i].group = s.points[i].group) ∧
      t.startup.period = s.startup.period ∧ t.panel.tone = s.panel.tone ∧
      t.startup.configFault = s.startup.configFault) ∧
    ((∀ pins, c ≠ .releaseOfReset pins) → t.startup.straps = s.startup.straps)

end
end

