-- ==== Sys2Proof/Laws/State.lean ====
section
/-! SUPPORT. The fields of the reset state, one lemma for each field, and the fold lemma that the frame lemmas of the other
files rest on. An update of the state is written `{ s with … }`, whose fields simp reads off without a lemma. -/

namespace Sys2Proof.Machine

section Reset

variable (g : ResetGate) (p : InputPins) (q : List Instr)

@[simp] theorem inReset_startup : (State.inReset g p q).startup = .reset g := rfl
@[simp] theorem inReset_disagree : (State.inReset g p q).disagree = Vector.replicate 16 0 := rfl
@[simp] theorem inReset_points :
    (State.inReset g p q).points = Vector.replicate 16 (.fresh Config.defaultPoint) := rfl
@[simp] theorem inReset_list : (State.inReset g p q).list = [] := rfl
@[simp] theorem inReset_line : (State.inReset g p q).line = .reset := rfl
@[simp] theorem inReset_access : (State.inReset g p q).access = .reset := rfl
@[simp] theorem inReset_member : (State.inReset g p q).member = .reset := rfl
@[simp] theorem inReset_peers : (State.inReset g p q).peers = Vector.replicate 16 .reset := rfl
@[simp] theorem inReset_mirror : (State.inReset g p q).mirror = .reset := rfl
@[simp] theorem inReset_keys : (State.inReset g p q).keys = .reset := rfl
@[simp] theorem inReset_queue : (State.inReset g p q).queue = .reset := rfl
@[simp] theorem inReset_time : (State.inReset g p q).time = .reset := rfl
@[simp] theorem inReset_panel : (State.inReset g p q).panel = .reset := rfl
@[simp] theorem inReset_pins : (State.inReset g p q).pins = p := rfl
@[simp] theorem inReset_pending : (State.inReset g p q).pending = q := rfl

end Reset

/-- What every step of a fold keeps, the fold keeps. -/
theorem foldl_keeps {α β γ : Type} {f : α → β → α} {proj : α → γ} (h : ∀ a b, proj (f a b) = proj a) (l : List β)
    (a : α) : proj (l.foldl f a) = proj a := by
  induction l generalizing a with
  | nil => rfl
  | cons b l ih => rw [List.foldl_cons, ih, h]

/-- Reading one place of a vector after another, or the same, was set. -/
theorem get_set_fin {α : Type} {n : Nat} (v : Vector α n) (i j : Fin n) (x : α) :
    (v.set i x)[j] = if j = i then x else v[j] := by
  by_cases h : j = i
  · subst h; simp
  · have : i.val ≠ j.val := fun e => h (Fin.ext e.symm)
    simp [h, Vector.getElem_set_ne, this]

/-- Reading one place of a vector made from a function. -/
theorem get_ofFn_fin {α : Type} {n : Nat} (f : Fin n → α) (j : Fin n) : (Vector.ofFn f)[j] = f j := by simp

end Sys2Proof.Machine
end

