-- ==== Sys2Proof/Laws/Points.lean ====
section
/-! SUPPORT. What each shared operation leaves unchanged: own points, the list and the Mirror Table. One lemma for
each operation; every part of it is a rewrite rule. -/

namespace Sys2Proof.Machine

/-- A publication changes records and the Mirror Table only (R91). -/
@[simp] theorem publish_frame (i : PointIndex) (pair : PointPair) (s : State) :
    (publish i pair s).startup = s.startup ∧ (publish i pair s).disagree = s.disagree ∧
    (publish i pair s).list = s.list ∧ (publish i pair s).line = s.line ∧ (publish i pair s).access = s.access ∧
    (publish i pair s).member = s.member ∧ (publish i pair s).peers = s.peers ∧ (publish i pair s).keys = s.keys ∧
    (publish i pair s).queue = s.queue ∧ (publish i pair s).time = s.time ∧ (publish i pair s).panel = s.panel ∧
    (publish i pair s).pins = s.pins ∧ (publish i pair s).pending = s.pending := by
  simp [publish]

/-- A full refresh changes only the list (R84). -/
@[simp] theorem fullRefresh_frame (s : State) :
    (fullRefresh s).startup = s.startup ∧ (fullRefresh s).disagree = s.disagree ∧ (fullRefresh s).points = s.points ∧
    (fullRefresh s).line = s.line ∧ (fullRefresh s).access = s.access ∧ (fullRefresh s).member = s.member ∧
    (fullRefresh s).peers = s.peers ∧ (fullRefresh s).mirror = s.mirror ∧ (fullRefresh s).keys = s.keys ∧
    (fullRefresh s).queue = s.queue ∧ (fullRefresh s).time = s.time ∧ (fullRefresh s).panel = s.panel ∧
    (fullRefresh s).pins = s.pins ∧ (fullRefresh s).pending = s.pending := by
  simp [fullRefresh]

/-- The catch-up on one point changes what a publication changes. -/
@[simp] theorem catchUpPoint_frame (s : State) (i : PointIndex) :
    (catchUpPoint s i).startup = s.startup ∧ (catchUpPoint s i).disagree = s.disagree ∧
    (catchUpPoint s i).list = s.list ∧ (catchUpPoint s i).line = s.line ∧ (catchUpPoint s i).access = s.access ∧
    (catchUpPoint s i).member = s.member ∧ (catchUpPoint s i).peers = s.peers ∧ (catchUpPoint s i).keys = s.keys ∧
    (catchUpPoint s i).queue = s.queue ∧ (catchUpPoint s i).time = s.time ∧ (catchUpPoint s i).panel = s.panel ∧
    (catchUpPoint s i).pins = s.pins ∧ (catchUpPoint s i).pending = s.pending := by
  simp only [catchUpPoint]
  (repeat' split) <;> simp

/-- The catch-up changes what publications change, and no entry of the list (R94). -/
@[simp] theorem catchUp_frame (s : State) :
    (catchUp s).startup = s.startup ∧ (catchUp s).disagree = s.disagree ∧ (catchUp s).list = s.list ∧
    (catchUp s).line = s.line ∧ (catchUp s).access = s.access ∧ (catchUp s).member = s.member ∧
    (catchUp s).peers = s.peers ∧ (catchUp s).keys = s.keys ∧ (catchUp s).queue = s.queue ∧
    (catchUp s).time = s.time ∧ (catchUp s).panel = s.panel ∧ (catchUp s).pins = s.pins ∧
    (catchUp s).pending = s.pending := by
  unfold catchUp
  and_intros <;> exact foldl_keeps (fun _ _ => by simp) _ _

/-- As `catchUp_frame`. -/
@[simp] theorem catchUpFrom_frame (b s : State) :
    (catchUpFrom b s).startup = s.startup ∧ (catchUpFrom b s).disagree = s.disagree ∧
    (catchUpFrom b s).list = s.list ∧ (catchUpFrom b s).line = s.line ∧ (catchUpFrom b s).access = s.access ∧
    (catchUpFrom b s).member = s.member ∧ (catchUpFrom b s).peers = s.peers ∧ (catchUpFrom b s).keys = s.keys ∧
    (catchUpFrom b s).queue = s.queue ∧ (catchUpFrom b s).time = s.time ∧ (catchUpFrom b s).panel = s.panel ∧
    (catchUpFrom b s).pins = s.pins ∧ (catchUpFrom b s).pending = s.pending := by
  simp only [catchUpFrom]
  (repeat' split) <;> simp

/-- The publication at a change in local publication mode (R93). -/
@[simp] theorem publishChange_frame (i : PointIndex) (s : State) :
    (publishChange i s).startup = s.startup ∧ (publishChange i s).disagree = s.disagree ∧
    (publishChange i s).list = s.list ∧ (publishChange i s).line = s.line ∧ (publishChange i s).access = s.access ∧
    (publishChange i s).member = s.member ∧ (publishChange i s).peers = s.peers ∧ (publishChange i s).keys = s.keys ∧
    (publishChange i s).queue = s.queue ∧ (publishChange i s).time = s.time ∧ (publishChange i s).panel = s.panel ∧
    (publishChange i s).pins = s.pins ∧ (publishChange i s).pending = s.pending := by
  simp only [publishChange]
  (repeat' split) <;> simp

/-- A state change hands on to the record, the Mirror Table and the list only (R22). -/
@[simp] theorem stateChange_frame (i : PointIndex) (new : PointState) (s : State) :
    (stateChange i new s).startup = s.startup ∧ (stateChange i new s).disagree = s.disagree ∧
    (stateChange i new s).line = s.line ∧ (stateChange i new s).access = s.access ∧
    (stateChange i new s).member = s.member ∧ (stateChange i new s).peers = s.peers ∧
    (stateChange i new s).keys = s.keys ∧ (stateChange i new s).queue = s.queue ∧
    (stateChange i new s).time = s.time ∧ (stateChange i new s).panel = s.panel ∧
    (stateChange i new s).pins = s.pins ∧ (stateChange i new s).pending = s.pending := by
  simp [stateChange]

/-- As `stateChange_frame`. -/
@[simp] theorem applyMove_frame (i : PointIndex) (m : Option PointState) (s : State) :
    (applyMove i m s).startup = s.startup ∧ (applyMove i m s).disagree = s.disagree ∧
    (applyMove i m s).line = s.line ∧ (applyMove i m s).access = s.access ∧ (applyMove i m s).member = s.member ∧
    (applyMove i m s).peers = s.peers ∧ (applyMove i m s).keys = s.keys ∧ (applyMove i m s).queue = s.queue ∧
    (applyMove i m s).time = s.time ∧ (applyMove i m s).panel = s.panel ∧ (applyMove i m s).pins = s.pins ∧
    (applyMove i m s).pending = s.pending := by
  simp only [applyMove]
  (repeat' split) <;> simp

/-- As `stateChange_frame`. -/
@[simp] theorem conditionEvent_frame (i : PointIndex) (e : Condition) (s : State) :
    (conditionEvent i e s).startup = s.startup ∧ (conditionEvent i e s).disagree = s.disagree ∧
    (conditionEvent i e s).line = s.line ∧ (conditionEvent i e s).access = s.access ∧
    (conditionEvent i e s).member = s.member ∧ (conditionEvent i e s).peers = s.peers ∧
    (conditionEvent i e s).keys = s.keys ∧ (conditionEvent i e s).queue = s.queue ∧
    (conditionEvent i e s).time = s.time ∧ (conditionEvent i e s).panel = s.panel ∧
    (conditionEvent i e s).pins = s.pins ∧ (conditionEvent i e s).pending = s.pending := by
  simp [conditionEvent]

/-- As `stateChange_frame`. -/
@[simp] theorem versionedClaim_frame (f : PointMode → PointState → Option PointState) (i : PointIndex) (v : Version) (s : State) :
    (versionedClaim f i v s).startup = s.startup ∧ (versionedClaim f i v s).disagree = s.disagree ∧
    (versionedClaim f i v s).line = s.line ∧ (versionedClaim f i v s).access = s.access ∧
    (versionedClaim f i v s).member = s.member ∧ (versionedClaim f i v s).peers = s.peers ∧
    (versionedClaim f i v s).keys = s.keys ∧ (versionedClaim f i v s).queue = s.queue ∧
    (versionedClaim f i v s).time = s.time ∧ (versionedClaim f i v s).panel = s.panel ∧
    (versionedClaim f i v s).pins = s.pins ∧ (versionedClaim f i v s).pending = s.pending := by
  simp only [versionedClaim]
  (repeat' split) <;> simp

/-- As `stateChange_frame`. -/
@[simp] theorem acknowledge_frame (i : PointIndex) (v : Version) (s : State) :
    (acknowledge i v s).startup = s.startup ∧ (acknowledge i v s).disagree = s.disagree ∧
    (acknowledge i v s).line = s.line ∧ (acknowledge i v s).access = s.access ∧
    (acknowledge i v s).member = s.member ∧ (acknowledge i v s).peers = s.peers ∧ (acknowledge i v s).keys = s.keys ∧
    (acknowledge i v s).queue = s.queue ∧ (acknowledge i v s).time = s.time ∧ (acknowledge i v s).panel = s.panel ∧
    (acknowledge i v s).pins = s.pins ∧ (acknowledge i v s).pending = s.pending := by
  simp [acknowledge]

/-- As `stateChange_frame`. -/
@[simp] theorem resetClaim_frame (i : PointIndex) (v : Version) (s : State) :
    (resetClaim i v s).startup = s.startup ∧ (resetClaim i v s).disagree = s.disagree ∧
    (resetClaim i v s).line = s.line ∧ (resetClaim i v s).access = s.access ∧ (resetClaim i v s).member = s.member ∧
    (resetClaim i v s).peers = s.peers ∧ (resetClaim i v s).keys = s.keys ∧ (resetClaim i v s).queue = s.queue ∧
    (resetClaim i v s).time = s.time ∧ (resetClaim i v s).panel = s.panel ∧ (resetClaim i v s).pins = s.pins ∧
    (resetClaim i v s).pending = s.pending := by
  simp [resetClaim]

/-- A silence publication changes the Mirror Table only (R109). -/
@[simp] theorem silencePublication_frame (s : State) :
    (silencePublication s).startup = s.startup ∧ (silencePublication s).disagree = s.disagree ∧
    (silencePublication s).points = s.points ∧ (silencePublication s).list = s.list ∧
    (silencePublication s).line = s.line ∧ (silencePublication s).access = s.access ∧
    (silencePublication s).member = s.member ∧ (silencePublication s).peers = s.peers ∧
    (silencePublication s).keys = s.keys ∧ (silencePublication s).queue = s.queue ∧
    (silencePublication s).time = s.time ∧ (silencePublication s).panel = s.panel ∧
    (silencePublication s).pins = s.pins ∧ (silencePublication s).pending = s.pending := by
  simp [silencePublication]

/-- Only the Panel Driver notes the horn (R153). -/
@[simp] theorem noteHorn_frame (s : State) :
    (noteHorn s).startup = s.startup ∧ (noteHorn s).disagree = s.disagree ∧ (noteHorn s).points = s.points ∧
    (noteHorn s).list = s.list ∧ (noteHorn s).line = s.line ∧ (noteHorn s).access = s.access ∧
    (noteHorn s).member = s.member ∧ (noteHorn s).peers = s.peers ∧ (noteHorn s).mirror = s.mirror ∧
    (noteHorn s).keys = s.keys ∧ (noteHorn s).queue = s.queue ∧ (noteHorn s).time = s.time ∧
    (noteHorn s).pins = s.pins ∧ (noteHorn s).pending = s.pending := by
  simp [noteHorn]

end Sys2Proof.Machine
end

