-- ==== Sys2Proof/Laws/Group.lean ====
section
/-! SUPPORT. What each shared operation leaves unchanged: membership and presence. One lemma for
each operation; every part of it is a rewrite rule. -/

namespace Sys2Proof.Machine

/-- Only the presence timer and its mark (Table 35). -/
@[simp] theorem stopPresence_frame (s : State) :
    (stopPresence s).startup = s.startup ∧ (stopPresence s).disagree = s.disagree ∧
    (stopPresence s).points = s.points ∧ (stopPresence s).list = s.list ∧ (stopPresence s).line = s.line ∧
    (stopPresence s).member = s.member ∧ (stopPresence s).peers = s.peers ∧ (stopPresence s).mirror = s.mirror ∧
    (stopPresence s).keys = s.keys ∧ (stopPresence s).queue = s.queue ∧ (stopPresence s).time = s.time ∧
    (stopPresence s).panel = s.panel ∧ (stopPresence s).pins = s.pins ∧ (stopPresence s).pending = s.pending := by
  simp [stopPresence]

/-- Only the presence timer and its mark (Table 35). -/
@[simp] theorem startPresence_frame (s : State) :
    (startPresence s).startup = s.startup ∧ (startPresence s).disagree = s.disagree ∧
    (startPresence s).points = s.points ∧ (startPresence s).list = s.list ∧ (startPresence s).line = s.line ∧
    (startPresence s).member = s.member ∧ (startPresence s).peers = s.peers ∧ (startPresence s).mirror = s.mirror ∧
    (startPresence s).keys = s.keys ∧ (startPresence s).queue = s.queue ∧ (startPresence s).time = s.time ∧
    (startPresence s).panel = s.panel ∧ (startPresence s).pins = s.pins ∧ (startPresence s).pending = s.pending := by
  simp [startPresence]

/-- Entry to WARNING touches no attempt, list or queue (R66). -/
@[simp] theorem enterWarning_frame (s : State) :
    (enterWarning s).startup = s.startup ∧ (enterWarning s).disagree = s.disagree ∧ (enterWarning s).list = s.list ∧
    (enterWarning s).line = s.line ∧ (enterWarning s).access = s.access ∧ (enterWarning s).peers = s.peers ∧
    (enterWarning s).keys = s.keys ∧ (enterWarning s).queue = s.queue ∧ (enterWarning s).time = s.time ∧
    (enterWarning s).panel = s.panel ∧ (enterWarning s).pins = s.pins ∧ (enterWarning s).pending = s.pending := by
  simp [enterWarning]

/-- As `enterWarning_frame`. -/
@[simp] theorem supplyWarned_frame (s : State) :
    (supplyWarned s).startup = s.startup ∧ (supplyWarned s).disagree = s.disagree ∧ (supplyWarned s).list = s.list ∧
    (supplyWarned s).line = s.line ∧ (supplyWarned s).access = s.access ∧ (supplyWarned s).peers = s.peers ∧
    (supplyWarned s).keys = s.keys ∧ (supplyWarned s).queue = s.queue ∧ (supplyWarned s).time = s.time ∧
    (supplyWarned s).panel = s.panel ∧ (supplyWarned s).pins = s.pins ∧ (supplyWarned s).pending = s.pending := by
  simp only [supplyWarned]
  (repeat' split) <;> simp

/-- Entry to LISTEN keeps the Presence Table, the list and the queue (R61). -/
@[simp] theorem enterListen_frame (s : State) :
    (enterListen s).startup = s.startup ∧ (enterListen s).disagree = s.disagree ∧ (enterListen s).list = s.list ∧
    (enterListen s).line = s.line ∧ (enterListen s).peers = s.peers ∧ (enterListen s).keys = s.keys ∧
    (enterListen s).queue = s.queue ∧ (enterListen s).time = s.time ∧ (enterListen s).panel = s.panel ∧
    (enterListen s).pins = s.pins ∧ (enterListen s).pending = s.pending := by
  simp only [enterListen]
  (repeat' split) <;> simp

/-- As `enterListen_frame`. -/
@[simp] theorem leaveWarning_frame (s : State) :
    (leaveWarning s).startup = s.startup ∧ (leaveWarning s).disagree = s.disagree ∧ (leaveWarning s).list = s.list ∧
    (leaveWarning s).line = s.line ∧ (leaveWarning s).peers = s.peers ∧ (leaveWarning s).keys = s.keys ∧
    (leaveWarning s).queue = s.queue ∧ (leaveWarning s).time = s.time ∧ (leaveWarning s).panel = s.panel ∧
    (leaveWarning s).pins = s.pins ∧ (leaveWarning s).pending = s.pending := by
  simp only [leaveWarning]
  (repeat' split) <;> simp

/-- Entry to DEPARTED (R69). -/
@[simp] theorem enterDeparted_frame (s : State) :
    (enterDeparted s).startup = s.startup ∧ (enterDeparted s).disagree = s.disagree ∧
    (enterDeparted s).points = s.points ∧ (enterDeparted s).list = s.list ∧ (enterDeparted s).line = s.line ∧
    (enterDeparted s).peers = s.peers ∧ (enterDeparted s).mirror = s.mirror ∧ (enterDeparted s).keys = s.keys ∧
    (enterDeparted s).queue = s.queue ∧ (enterDeparted s).time = s.time ∧ (enterDeparted s).panel = s.panel ∧
    (enterDeparted s).pins = s.pins ∧ (enterDeparted s).pending = s.pending := by
  simp [enterDeparted]

/-- As `enterListen_frame`. -/
@[simp] theorem supplyRecovered_frame (s : State) :
    (supplyRecovered s).startup = s.startup ∧ (supplyRecovered s).disagree = s.disagree ∧
    (supplyRecovered s).list = s.list ∧ (supplyRecovered s).line = s.line ∧ (supplyRecovered s).peers = s.peers ∧
    (supplyRecovered s).keys = s.keys ∧ (supplyRecovered s).queue = s.queue ∧ (supplyRecovered s).time = s.time ∧
    (supplyRecovered s).panel = s.panel ∧ (supplyRecovered s).pins = s.pins ∧
    (supplyRecovered s).pending = s.pending := by
  simp only [supplyRecovered]
  (repeat' split) <;> simp

/-- Entry to DUPLICATE keeps the list, the queue and the Presence Table (R70, R71). -/
@[simp] theorem enterDuplicate_frame (s : State) :
    (enterDuplicate s).startup = s.startup ∧ (enterDuplicate s).disagree = s.disagree ∧
    (enterDuplicate s).list = s.list ∧ (enterDuplicate s).line = s.line ∧ (enterDuplicate s).peers = s.peers ∧
    (enterDuplicate s).keys = s.keys ∧ (enterDuplicate s).queue = s.queue ∧ (enterDuplicate s).time = s.time ∧
    (enterDuplicate s).panel = s.panel ∧ (enterDuplicate s).pins = s.pins ∧ (enterDuplicate s).pending = s.pending := by
  simp only [enterDuplicate]
  (repeat' split) <;> simp

/-- A change between GROUP and SOLO (R65). -/
@[simp] theorem followPresence_frame (s : State) :
    (followPresence s).startup = s.startup ∧ (followPresence s).disagree = s.disagree ∧
    (followPresence s).list = s.list ∧ (followPresence s).line = s.line ∧ (followPresence s).access = s.access ∧
    (followPresence s).peers = s.peers ∧ (followPresence s).keys = s.keys ∧ (followPresence s).queue = s.queue ∧
    (followPresence s).time = s.time ∧ (followPresence s).panel = s.panel ∧ (followPresence s).pins = s.pins ∧
    (followPresence s).pending = s.pending := by
  simp only [followPresence]
  (repeat' split) <;> simp

/-- The hand-ons of Table 46, first row. -/
@[simp] theorem becamePresent_frame (p : StationNo) (s : State) :
    (becamePresent p s).startup = s.startup ∧ (becamePresent p s).disagree = s.disagree ∧
    (becamePresent p s).list = s.list ∧ (becamePresent p s).line = s.line ∧ (becamePresent p s).access = s.access ∧
    (becamePresent p s).peers = s.peers ∧ (becamePresent p s).keys = s.keys ∧ (becamePresent p s).queue = s.queue ∧
    (becamePresent p s).time = s.time ∧ (becamePresent p s).panel = s.panel ∧ (becamePresent p s).pins = s.pins ∧
    (becamePresent p s).pending = s.pending := by
  simp [becamePresent]

/-- The hand-ons of Table 46, last rows. -/
@[simp] theorem lostPresence_frame (p : StationNo) (s : State) :
    (lostPresence p s).startup = s.startup ∧ (lostPresence p s).disagree = s.disagree ∧
    (lostPresence p s).list = s.list ∧ (lostPresence p s).line = s.line ∧ (lostPresence p s).access = s.access ∧
    (lostPresence p s).peers = s.peers ∧ (lostPresence p s).keys = s.keys ∧ (lostPresence p s).time = s.time ∧
    (lostPresence p s).panel = s.panel ∧ (lostPresence p s).pins = s.pins ∧ (lostPresence p s).pending = s.pending := by
  simp [lostPresence]

/-- The Membership Controller taking a valid frame (R73). -/
@[simp] theorem peerHeard_frame (h : Header) (k : FrameKind) (s : State) :
    (peerHeard h k s).startup = s.startup ∧ (peerHeard h k s).disagree = s.disagree ∧
    (peerHeard h k s).list = s.list ∧ (peerHeard h k s).line = s.line ∧ (peerHeard h k s).access = s.access ∧
    (peerHeard h k s).keys = s.keys ∧ (peerHeard h k s).time = s.time ∧ (peerHeard h k s).panel = s.panel ∧
    (peerHeard h k s).pins = s.pins ∧ (peerHeard h k s).pending = s.pending := by
  simp only [peerHeard]
  (repeat' split) <;> simp

end Sys2Proof.Machine
end

