-- ==== Sys2Proof/Laws/Line.lean ====
section
/-! SUPPORT. What each shared operation leaves unchanged: the line. One lemma for
each operation; every part of it is a rewrite rule. -/

namespace Sys2Proof.Machine

/-- Halves on LRX reach the Line Interface only (R27). -/
@[simp] theorem hearPins_frame (n : Nat) (s : State) :
    (hearPins n s).startup = s.startup ∧ (hearPins n s).disagree = s.disagree ∧ (hearPins n s).points = s.points ∧
    (hearPins n s).list = s.list ∧ (hearPins n s).access = s.access ∧ (hearPins n s).member = s.member ∧
    (hearPins n s).peers = s.peers ∧ (hearPins n s).mirror = s.mirror ∧ (hearPins n s).keys = s.keys ∧
    (hearPins n s).queue = s.queue ∧ (hearPins n s).time = s.time ∧ (hearPins n s).panel = s.panel ∧
    (hearPins n s).pending = s.pending := by
  simp [hearPins]

/-- A transition of Table 23 changes the receiver only. -/
@[simp] theorem toReceiver_frame (r : RxState) (s : State) :
    (toReceiver r s).startup = s.startup ∧ (toReceiver r s).disagree = s.disagree ∧
    (toReceiver r s).points = s.points ∧ (toReceiver r s).list = s.list ∧ (toReceiver r s).access = s.access ∧
    (toReceiver r s).member = s.member ∧ (toReceiver r s).peers = s.peers ∧ (toReceiver r s).mirror = s.mirror ∧
    (toReceiver r s).keys = s.keys ∧ (toReceiver r s).queue = s.queue ∧ (toReceiver r s).time = s.time ∧
    (toReceiver r s).panel = s.panel ∧ (toReceiver r s).pins = s.pins ∧ (toReceiver r s).pending = s.pending := by
  simp [toReceiver]

/-- A damaged frame (R37). -/
@[simp] theorem frameDamaged_frame (s : State) :
    (frameDamaged s).startup = s.startup ∧ (frameDamaged s).disagree = s.disagree ∧
    (frameDamaged s).points = s.points ∧ (frameDamaged s).list = s.list ∧ (frameDamaged s).member = s.member ∧
    (frameDamaged s).peers = s.peers ∧ (frameDamaged s).mirror = s.mirror ∧ (frameDamaged s).keys = s.keys ∧
    (frameDamaged s).queue = s.queue ∧ (frameDamaged s).panel = s.panel ∧ (frameDamaged s).pins = s.pins ∧
    (frameDamaged s).pending = s.pending := by
  simp [frameDamaged]

end Sys2Proof.Machine
end

