-- ==== Sys2Proof/Laws/Access.lean ====
section
/-! SUPPORT. What each shared operation leaves unchanged: the attempt. One lemma for
each operation; every part of it is a rewrite rule. -/

namespace Sys2Proof.Machine

/-- The snapshots of a build (R88). -/
@[simp] theorem takeSnapshots_frame (s : State) :
    (takeSnapshots s).startup = s.startup ∧ (takeSnapshots s).disagree = s.disagree ∧
    (takeSnapshots s).list = s.list ∧ (takeSnapshots s).line = s.line ∧ (takeSnapshots s).access = s.access ∧
    (takeSnapshots s).member = s.member ∧ (takeSnapshots s).peers = s.peers ∧ (takeSnapshots s).mirror = s.mirror ∧
    (takeSnapshots s).keys = s.keys ∧ (takeSnapshots s).queue = s.queue ∧ (takeSnapshots s).time = s.time ∧
    (takeSnapshots s).panel = s.panel ∧ (takeSnapshots s).pins = s.pins ∧ (takeSnapshots s).pending = s.pending := by
  simp [takeSnapshots]

/-- The marks of a build (R48). -/
@[simp] theorem markBuild_frame (c : Choice) (s : State) :
    (markBuild c s).startup = s.startup ∧ (markBuild c s).disagree = s.disagree ∧ (markBuild c s).list = s.list ∧
    (markBuild c s).line = s.line ∧ (markBuild c s).access = s.access ∧ (markBuild c s).member = s.member ∧
    (markBuild c s).peers = s.peers ∧ (markBuild c s).mirror = s.mirror ∧ (markBuild c s).keys = s.keys ∧
    (markBuild c s).time = s.time ∧ (markBuild c s).panel = s.panel ∧ (markBuild c s).pins = s.pins ∧
    (markBuild c s).pending = s.pending := by
  cases c <;> simp [markBuild]

/-- The start of an attempt (R50). -/
@[simp] theorem beginAttempt_frame (c : Choice) (s : State) :
    (beginAttempt c s).startup = s.startup ∧ (beginAttempt c s).disagree = s.disagree ∧
    (beginAttempt c s).list = s.list ∧ (beginAttempt c s).member = s.member ∧ (beginAttempt c s).peers = s.peers ∧
    (beginAttempt c s).mirror = s.mirror ∧ (beginAttempt c s).keys = s.keys ∧ (beginAttempt c s).time = s.time ∧
    (beginAttempt c s).panel = s.panel ∧ (beginAttempt c s).pins = s.pins ∧ (beginAttempt c s).pending = s.pending := by
  simp [beginAttempt]

/-- A slot taken (R46). -/
@[simp] theorem takeSlot_frame (k : FrameClass) (s : State) :
    (takeSlot k s).startup = s.startup ∧ (takeSlot k s).disagree = s.disagree ∧ (takeSlot k s).list = s.list ∧
    (takeSlot k s).member = s.member ∧ (takeSlot k s).peers = s.peers ∧ (takeSlot k s).mirror = s.mirror ∧
    (takeSlot k s).keys = s.keys ∧ (takeSlot k s).time = s.time ∧ (takeSlot k s).panel = s.panel ∧
    (takeSlot k s).pins = s.pins ∧ (takeSlot k s).pending = s.pending := by
  simp only [takeSlot]
  (repeat' split) <;> simp

/-- The snapshot rule on one point (R89). -/
@[simp] theorem settlePoint_frame (s : State) (i : PointIndex) :
    (settlePoint s i).startup = s.startup ∧ (settlePoint s i).disagree = s.disagree ∧
    (settlePoint s i).line = s.line ∧ (settlePoint s i).access = s.access ∧ (settlePoint s i).member = s.member ∧
    (settlePoint s i).peers = s.peers ∧ (settlePoint s i).keys = s.keys ∧ (settlePoint s i).queue = s.queue ∧
    (settlePoint s i).time = s.time ∧ (settlePoint s i).panel = s.panel ∧ (settlePoint s i).pins = s.pins ∧
    (settlePoint s i).pending = s.pending := by
  simp only [settlePoint]
  (repeat' split) <;> simp

/-- A HELLO succeeded (R64). -/
@[simp] theorem helloSucceeded_frame (s : State) :
    (helloSucceeded s).startup = s.startup ∧ (helloSucceeded s).disagree = s.disagree ∧
    (helloSucceeded s).points = s.points ∧ (helloSucceeded s).line = s.line ∧ (helloSucceeded s).access = s.access ∧
    (helloSucceeded s).peers = s.peers ∧ (helloSucceeded s).mirror = s.mirror ∧ (helloSucceeded s).keys = s.keys ∧
    (helloSucceeded s).queue = s.queue ∧ (helloSucceeded s).time = s.time ∧ (helloSucceeded s).panel = s.panel ∧
    (helloSucceeded s).pins = s.pins ∧ (helloSucceeded s).pending = s.pending := by
  simp [helloSucceeded]

/-- A DEPART succeeded (R67). -/
@[simp] theorem departSucceeded_frame (s : State) :
    (departSucceeded s).startup = s.startup ∧ (departSucceeded s).disagree = s.disagree ∧
    (departSucceeded s).list = s.list ∧ (departSucceeded s).line = s.line ∧ (departSucceeded s).peers = s.peers ∧
    (departSucceeded s).keys = s.keys ∧ (departSucceeded s).queue = s.queue ∧ (departSucceeded s).time = s.time ∧
    (departSucceeded s).panel = s.panel ∧ (departSucceeded s).pins = s.pins ∧
    (departSucceeded s).pending = s.pending := by
  simp only [departSucceeded]
  (repeat' split) <;> simp

/-- The Access Controller's steps at a success (R52). -/
@[simp] theorem successSteps_frame (f : Frame) (s : State) :
    (successSteps f s).startup = s.startup ∧ (successSteps f s).disagree = s.disagree ∧
    (successSteps f s).points = s.points ∧ (successSteps f s).list = s.list ∧ (successSteps f s).member = s.member ∧
    (successSteps f s).peers = s.peers ∧ (successSteps f s).mirror = s.mirror ∧ (successSteps f s).keys = s.keys ∧
    (successSteps f s).queue = s.queue ∧ (successSteps f s).time = s.time ∧ (successSteps f s).panel = s.panel ∧
    (successSteps f s).pins = s.pins ∧ (successSteps f s).pending = s.pending := by
  simp [successSteps]

/-- The Access Controller's steps at a failure (R53). -/
@[simp] theorem failureSteps_frame (a : Attempt) (s : State) :
    (failureSteps a s).startup = s.startup ∧ (failureSteps a s).disagree = s.disagree ∧
    (failureSteps a s).points = s.points ∧ (failureSteps a s).list = s.list ∧ (failureSteps a s).member = s.member ∧
    (failureSteps a s).peers = s.peers ∧ (failureSteps a s).mirror = s.mirror ∧ (failureSteps a s).keys = s.keys ∧
    (failureSteps a s).queue = s.queue ∧ (failureSteps a s).time = s.time ∧ (failureSteps a s).panel = s.panel ∧
    (failureSteps a s).pending = s.pending := by
  simp [failureSteps]

/-- The snapshots discarded (R90). -/
@[simp] theorem discardSnapshots_frame (s : State) :
    (discardSnapshots s).startup = s.startup ∧ (discardSnapshots s).disagree = s.disagree ∧
    (discardSnapshots s).list = s.list ∧ (discardSnapshots s).line = s.line ∧
    (discardSnapshots s).access = s.access ∧ (discardSnapshots s).member = s.member ∧
    (discardSnapshots s).peers = s.peers ∧ (discardSnapshots s).mirror = s.mirror ∧
    (discardSnapshots s).keys = s.keys ∧ (discardSnapshots s).queue = s.queue ∧ (discardSnapshots s).time = s.time ∧
    (discardSnapshots s).panel = s.panel ∧ (discardSnapshots s).pins = s.pins ∧
    (discardSnapshots s).pending = s.pending := by
  simp [discardSnapshots]

/-- A DEPART failed (R67, R68). -/
@[simp] theorem departFailed_frame (s : State) :
    (departFailed s).startup = s.startup ∧ (departFailed s).disagree = s.disagree ∧ (departFailed s).list = s.list ∧
    (departFailed s).line = s.line ∧ (departFailed s).peers = s.peers ∧ (departFailed s).keys = s.keys ∧
    (departFailed s).queue = s.queue ∧ (departFailed s).time = s.time ∧ (departFailed s).panel = s.panel ∧
    (departFailed s).pins = s.pins ∧ (departFailed s).pending = s.pending := by
  simp only [departFailed]
  (repeat' split) <;> simp

/-- The refresh at the clearing of LINE FAULT (R59). -/
@[simp] theorem refreshIf_frame (b : Bool) (s : State) :
    (refreshIf b s).startup = s.startup ∧ (refreshIf b s).disagree = s.disagree ∧ (refreshIf b s).points = s.points ∧
    (refreshIf b s).line = s.line ∧ (refreshIf b s).access = s.access ∧ (refreshIf b s).member = s.member ∧
    (refreshIf b s).peers = s.peers ∧ (refreshIf b s).mirror = s.mirror ∧ (refreshIf b s).keys = s.keys ∧
    (refreshIf b s).queue = s.queue ∧ (refreshIf b s).time = s.time ∧ (refreshIf b s).panel = s.panel ∧
    (refreshIf b s).pins = s.pins ∧ (refreshIf b s).pending = s.pending := by
  simp only [refreshIf]
  (repeat' split) <;> simp

/-- As `catchUp_frame`. -/
@[simp] theorem catchUpAfter_frame (b : Body) (s : State) :
    (catchUpAfter b s).startup = s.startup ∧ (catchUpAfter b s).disagree = s.disagree ∧
    (catchUpAfter b s).list = s.list ∧ (catchUpAfter b s).line = s.line ∧ (catchUpAfter b s).access = s.access ∧
    (catchUpAfter b s).member = s.member ∧ (catchUpAfter b s).peers = s.peers ∧ (catchUpAfter b s).keys = s.keys ∧
    (catchUpAfter b s).queue = s.queue ∧ (catchUpAfter b s).time = s.time ∧ (catchUpAfter b s).panel = s.panel ∧
    (catchUpAfter b s).pins = s.pins ∧ (catchUpAfter b s).pending = s.pending := by
  simp only [catchUpAfter]
  (repeat' split) <;> simp

/-- As `catchUp_frame`. -/
@[simp] theorem catchUpFailed_frame (s0 : State) (b : Body) (s : State) :
    (catchUpFailed s0 b s).startup = s.startup ∧ (catchUpFailed s0 b s).disagree = s.disagree ∧
    (catchUpFailed s0 b s).list = s.list ∧ (catchUpFailed s0 b s).line = s.line ∧
    (catchUpFailed s0 b s).access = s.access ∧ (catchUpFailed s0 b s).member = s.member ∧
    (catchUpFailed s0 b s).peers = s.peers ∧ (catchUpFailed s0 b s).keys = s.keys ∧
    (catchUpFailed s0 b s).queue = s.queue ∧ (catchUpFailed s0 b s).time = s.time ∧
    (catchUpFailed s0 b s).panel = s.panel ∧ (catchUpFailed s0 b s).pins = s.pins ∧
    (catchUpFailed s0 b s).pending = s.pending := by
  simp only [catchUpFailed]
  (repeat' split) <;> simp

/-- The snapshot rule on every included point (R89). -/
@[simp] theorem settleAll_frame (is : List PointIndex) (s : State) :
    (is.foldl settlePoint s).startup = s.startup ∧ (is.foldl settlePoint s).disagree = s.disagree ∧
    (is.foldl settlePoint s).line = s.line ∧ (is.foldl settlePoint s).access = s.access ∧
    (is.foldl settlePoint s).member = s.member ∧ (is.foldl settlePoint s).peers = s.peers ∧
    (is.foldl settlePoint s).keys = s.keys ∧ (is.foldl settlePoint s).queue = s.queue ∧
    (is.foldl settlePoint s).time = s.time ∧ (is.foldl settlePoint s).panel = s.panel ∧
    (is.foldl settlePoint s).pins = s.pins ∧ (is.foldl settlePoint s).pending = s.pending := by
  and_intros <;> exact foldl_keeps (fun _ _ => by simp) _ _

/-- The reports of Table 37, success. -/
@[simp] theorem reportSuccess_frame (b : Body) (s : State) :
    (reportSuccess b s).startup = s.startup ∧ (reportSuccess b s).disagree = s.disagree ∧
    (reportSuccess b s).line = s.line ∧ (reportSuccess b s).peers = s.peers ∧ (reportSuccess b s).keys = s.keys ∧
    (reportSuccess b s).time = s.time ∧ (reportSuccess b s).panel = s.panel ∧ (reportSuccess b s).pins = s.pins ∧
    (reportSuccess b s).pending = s.pending := by
  cases b <;> simp [reportSuccess]

/-- The reports of Table 37, failure. -/
@[simp] theorem reportFailure_frame (b : Body) (s : State) :
    (reportFailure b s).startup = s.startup ∧ (reportFailure b s).disagree = s.disagree ∧
    (reportFailure b s).list = s.list ∧ (reportFailure b s).line = s.line ∧ (reportFailure b s).peers = s.peers ∧
    (reportFailure b s).keys = s.keys ∧ (reportFailure b s).time = s.time ∧ (reportFailure b s).panel = s.panel ∧
    (reportFailure b s).pins = s.pins ∧ (reportFailure b s).pending = s.pending := by
  cases b <;> simp [reportFailure]

end Sys2Proof.Machine
end

