-- ==== Sys2Proof/Laws/Hearing.lean ====
section
/-! SUPPORT. What decided halves do to the Line Interface: which parts they leave, and the counts after any run of them. With
these no proof need unfold the fold over the halves. -/

namespace Sys2Proof.Machine

open Sys2Proof.Safety

/-! ### What they leave -/

/-- A half is heard by the two counts and the number of decided halves only (R28, R38). -/
@[simp] theorem hear_frame (l : LineInterface) (h : Bool) :
    (l.hear h).receiver = l.receiver ∧ (l.hear h).status = l.status ∧ (l.hear h).windows = l.windows ∧
    (l.hear h).windowPart = l.windowPart ∧ (l.hear h).decided = l.decided + 1 := by
  unfold LineInterface.hear; split <;> simp

/-- As `hear_frame`, for any run of halves. -/
@[simp] theorem foldl_hear_frame (halves : List Bool) (l : LineInterface) :
    (halves.foldl LineInterface.hear l).receiver = l.receiver ∧
    (halves.foldl LineInterface.hear l).status = l.status ∧ (halves.foldl LineInterface.hear l).windows = l.windows ∧
    (halves.foldl LineInterface.hear l).windowPart = l.windowPart ∧
    (halves.foldl LineInterface.hear l).decided = l.decided + halves.length := by
  induction halves generalizing l with
  | nil => simp
  | cons h t ih => simp [ih]; omega

/-- Only the quiet count is put right (R28). -/
@[simp] theorem putRight_frame (l : LineInterface) :
    l.putRight.receiver = l.receiver ∧ l.putRight.status = l.status ∧ l.putRight.windows = l.windows ∧
    l.putRight.windowPart = l.windowPart ∧ l.putRight.decided = l.decided ∧ l.putRight.jamCount = l.jamCount := by
  unfold LineInterface.putRight; split <;> simp

/-! ### The counts -/

/-- The quiet run goes on from the count of the half before it. -/
theorem quietRun_cons (count : Nat) (h : Bool) (t : List Bool) :
    quietRun count (h :: t) = quietRun (if h then 0 else count + 1) t := by
  unfold quietRun
  by_cases ht : true ∈ t
  · obtain ⟨u, v, huv, hv⟩ := List.eq_append_cons_of_mem (List.mem_reverse.2 ht)
    have hu : ∀ x ∈ u, (!x) = true := fun x hx => by
      cases x <;> simp_all
    simp [ht, huv, List.takeWhile_append_of_pos hu]
  · have hall : ∀ x ∈ t.reverse, (!x) = true := fun x hx => by
      cases x <;> simp_all
    cases h <;> simp [ht, List.takeWhile_append_of_pos hall]; omega

/-- The quiet count stops at 23 where the 24th half without carrier is an event of its own. -/
theorem quietRun_min (count : Nat) (t : List Bool) :
    min 23 (quietRun (min 23 count) t) = min 23 (quietRun count t) := by
  unfold quietRun; split <;> omega

/-- One half into the quiet count of a BUSY line (R28). -/
theorem quietHeld_val (q : Fin 25) (h : Bool) (hq : q ≠ 24) :
    (quietHeld q h).val = min 23 (if h then 0 else q.val + 1) := by
  revert q h; decide

/-- The end of one BT in the jam count of a BUSY line (R38). -/
theorem jamHeld_val (j : Fin 2049) : (jamHeld j).val = if j = 2048 then 2048 else min 2047 (j.val + 1) := by
  unfold jamHeld jamStep
  by_cases h : j.val < 2048
  · have h' : j ≠ 2048 := by intro e; simp [e] at h
    by_cases h2 : j.val = 2047
    · simp [h', h2]
    · simp [h, h', h2]; omega
  · have h' : j = 2048 := Fin.ext (by simp; omega)
    subst h'; simp

/-- The quiet count of a BUSY line after any run of halves. -/
theorem foldl_hear_quietCount (halves : List Bool) (l : LineInterface) (hs : l.status = .busy) (hq : l.quietCount ≠ 24) :
    (halves.foldl LineInterface.hear l).quietCount.val = min 23 (quietRun l.quietCount.val halves) := by
  induction halves generalizing l with
  | nil =>
    have : l.quietCount.val ≠ 24 := fun e => hq (Fin.ext e)
    simp [quietRun]; omega
  | cons h t ih =>
    have hv : (l.hear h).quietCount.val = min 23 (if h then 0 else l.quietCount.val + 1) := by
      rw [← quietHeld_val _ _ hq]; simp [LineInterface.hear, hs]
    rw [List.foldl_cons, ih _ (by simp [hs]) (fun e => by rw [e] at hv; simp at hv; omega), hv, quietRun_min,
      quietRun_cons]

/-- The jam count of a BUSY line after any run of halves. -/
theorem foldl_hear_jamCount (halves : List Bool) (l : LineInterface) (hs : l.status = .busy) :
    (halves.foldl LineInterface.hear l).jamCount.val =
      if l.jamCount = 2048 then 2048
      else min 2047 (l.jamCount.val + ((l.decided + halves.length) / 2 - l.decided / 2)) := by
  induction halves generalizing l with
  | nil =>
    have : l.jamCount ≠ 2048 → l.jamCount.val ≠ 2048 := fun h e => h (Fin.ext e)
    by_cases h : l.jamCount = 2048
    · simp [h]
    · have := this h; simp [h]; omega
  | cons h t ih =>
    have hj : (l.hear h).jamCount = if (l.decided + 1) % 2 = 0 then jamHeld l.jamCount else l.jamCount := by
      simp [LineInterface.hear, hs]
    have hv := jamHeld_val l.jamCount
    have hne : ∀ j : Fin 2049, j = 2048 ↔ j.val = 2048 := fun j => by simp [Fin.ext_iff]
    rw [List.foldl_cons, ih _ (by simp [hs])]
    simp only [hne, hj, hear_frame, List.length_cons] at *
    split <;> split <;> split at hv <;> simp_all <;> omega

/-- Nothing is counted on a QUIET line (R28, R38). -/
theorem foldl_hear_quiet (halves : List Bool) (l : LineInterface) (hs : l.status = .quiet) :
    (halves.foldl LineInterface.hear l).quietCount = l.quietCount ∧
    (halves.foldl LineInterface.hear l).jamCount = l.jamCount := by
  induction halves generalizing l with
  | nil => simp
  | cons x t ih =>
    obtain ⟨hq, hj⟩ := ih (l.hear x) (by simp [hs])
    rw [List.foldl_cons, hq, hj]
    simp [LineInterface.hear, hs]

/-- The Line Interface after any run of halves, on a BUSY line and on a QUIET one. -/
theorem foldl_hear_eq (halves : List Bool) (l : LineInterface) (h : CountBelow l) :
    halves.foldl LineInterface.hear l = { heardLine halves l with windowPart := l.windowPart } := by
  obtain ⟨hr, hst, hw, hp, hd⟩ := foldl_hear_frame halves l
  have parts : ∀ m : LineInterface, m.receiver = l.receiver → m.status = l.status → m.windows = l.windows →
      m.windowPart = l.windowPart → m.decided = l.decided + halves.length →
      m = { l with quietCount := m.quietCount, jamCount := m.jamCount, decided := l.decided + halves.length } := by
    rintro ⟨⟩ rfl rfl rfl rfl rfl; rfl
  rw [parts _ hr hst hw hp hd]
  cases hs : l.status with
  | quiet =>
    obtain ⟨hq, hj⟩ := foldl_hear_quiet halves l hs
    simp [heardLine, hs, hq, hj]
  | busy =>
    have hq := foldl_hear_quietCount halves l hs (h hs)
    have hj := foldl_hear_jamCount halves l hs
    simp only [heardLine, hs, LineInterface.mk.injEq, true_and, and_true, reduceCtorEq, if_false]
    refine ⟨Fin.ext ?_, Fin.ext ?_⟩
    · rw [hq, Fin.val_ofNat]; omega
    · rw [hj]; split
      · rfl
      · rw [Fin.val_ofNat]; omega

/-- The Line Interface after a frame, a start mark or another run of halves that began with the windows. -/
theorem hearUpTo_eq (halves : List Bool) (l : LineInterface) (h : CountBelow l) :
    l.hearUpTo halves = heardLine (halves.drop l.decided) l := by
  unfold LineInterface.hearUpTo
  rw [foldl_hear_eq _ _ h]
  unfold heardLine
  split <;> rfl

end Sys2Proof.Machine
end

