-- ==== Sys2Proof/Laws/Inputs.lean ====
section
/-! SUPPORT. What each shared operation leaves unchanged: field inputs and keys. One lemma for
each operation; every part of it is a rewrite rule. -/

namespace Sys2Proof.Machine

/-- One sample of a field input (R4). -/
@[simp] theorem samplePoint_frame (longest : DebounceClass) (l : Mask) (s : State) (i : PointIndex) :
    (samplePoint longest l s i).startup = s.startup ∧ (samplePoint longest l s i).line = s.line ∧
    (samplePoint longest l s i).access = s.access ∧ (samplePoint longest l s i).member = s.member ∧
    (samplePoint longest l s i).peers = s.peers ∧ (samplePoint longest l s i).keys = s.keys ∧
    (samplePoint longest l s i).queue = s.queue ∧ (samplePoint longest l s i).time = s.time ∧
    (samplePoint longest l s i).panel = s.panel ∧ (samplePoint longest l s i).pins = s.pins ∧
    (samplePoint longest l s i).pending = s.pending := by
  simp only [samplePoint]
  (repeat' split) <;> simp

/-- A press of KSIL (R120). -/
@[simp] theorem pressKsil_frame (s : State) :
    (pressKsil s).startup = s.startup ∧ (pressKsil s).disagree = s.disagree ∧ (pressKsil s).points = s.points ∧
    (pressKsil s).list = s.list ∧ (pressKsil s).line = s.line ∧ (pressKsil s).access = s.access ∧
    (pressKsil s).member = s.member ∧ (pressKsil s).peers = s.peers ∧ (pressKsil s).keys = s.keys ∧
    (pressKsil s).time = s.time ∧ (pressKsil s).panel = s.panel ∧ (pressKsil s).pins = s.pins ∧
    (pressKsil s).pending = s.pending := by
  simp only [pressKsil]
  (repeat' split) <;> simp

end Sys2Proof.Machine
end

