-- ==== Sys2Proof/Laws/Receive.lean ====
section
/-! SUPPORT. What each shared operation leaves unchanged: received frames and the tick. One lemma for
each operation; every part of it is a rewrite rule. -/

namespace Sys2Proof.Machine

/-- The halves of a frame reach the Line Interface only (R36). -/
@[simp] theorem hearFrame_frame (f : Frame) (s : State) :
    (hearFrame f s).startup = s.startup ∧ (hearFrame f s).disagree = s.disagree ∧ (hearFrame f s).points = s.points ∧
    (hearFrame f s).list = s.list ∧ (hearFrame f s).access = s.access ∧ (hearFrame f s).member = s.member ∧
    (hearFrame f s).peers = s.peers ∧ (hearFrame f s).mirror = s.mirror ∧ (hearFrame f s).keys = s.keys ∧
    (hearFrame f s).queue = s.queue ∧ (hearFrame f s).time = s.time ∧ (hearFrame f s).panel = s.panel ∧
    (hearFrame f s).pins = s.pins ∧ (hearFrame f s).pending = s.pending := by
  simp [hearFrame]

/-- The pairs of a request (R130). -/
@[simp] theorem takePairs_frame (f : PointMode → PointState → Option PointState) (ps : List ReqPair) (s : State) :
    (takePairs (versionedClaim f) ps s).startup = s.startup ∧
    (takePairs (versionedClaim f) ps s).disagree = s.disagree ∧ (takePairs (versionedClaim f) ps s).line = s.line ∧
    (takePairs (versionedClaim f) ps s).access = s.access ∧ (takePairs (versionedClaim f) ps s).member = s.member ∧
    (takePairs (versionedClaim f) ps s).peers = s.peers ∧ (takePairs (versionedClaim f) ps s).keys = s.keys ∧
    (takePairs (versionedClaim f) ps s).queue = s.queue ∧ (takePairs (versionedClaim f) ps s).time = s.time ∧
    (takePairs (versionedClaim f) ps s).panel = s.panel ∧ (takePairs (versionedClaim f) ps s).pins = s.pins ∧
    (takePairs (versionedClaim f) ps s).pending = s.pending := by
  unfold takePairs
  and_intros <;> exact foldl_keeps (fun _ _ => by simp) _ _

theorem acknowledge_eta : acknowledge = versionedClaim acknowledgeMove := rfl

theorem resetClaim_eta : resetClaim = versionedClaim resetMove := rfl

/-- The blocks of Table 27 beyond the first peer row. -/
@[simp] theorem takeBody_frame (p : StationNo) (b : Body) (s : State) :
    (takeBody p b s).startup = s.startup ∧ (takeBody p b s).disagree = s.disagree ∧ (takeBody p b s).line = s.line ∧
    (takeBody p b s).access = s.access ∧ (takeBody p b s).member = s.member ∧ (takeBody p b s).peers = s.peers ∧
    (takeBody p b s).keys = s.keys ∧ (takeBody p b s).queue = s.queue ∧ (takeBody p b s).time = s.time ∧
    (takeBody p b s).panel = s.panel ∧ (takeBody p b s).pins = s.pins ∧ (takeBody p b s).pending = s.pending := by
  cases b <;> simp [takeBody] <;> split <;> simp [acknowledge_eta, resetClaim_eta]

/-- Adoption moves the wheel and the elapsed count only (R143). -/
@[simp] theorem adopt_frame (h : Header) (s : State) :
    (adopt h s).startup = s.startup ∧ (adopt h s).disagree = s.disagree ∧ (adopt h s).points = s.points ∧
    (adopt h s).list = s.list ∧ (adopt h s).line = s.line ∧ (adopt h s).access = s.access ∧
    (adopt h s).member = s.member ∧ (adopt h s).peers = s.peers ∧ (adopt h s).mirror = s.mirror ∧
    (adopt h s).keys = s.keys ∧ (adopt h s).queue = s.queue ∧ (adopt h s).panel = s.panel ∧
    (adopt h s).pins = s.pins ∧ (adopt h s).pending = s.pending := by
  simp only [adopt]
  (repeat' split) <;> simp

/-- The rotation and the receiver (R29, R40). -/
@[simp] theorem rotateTo_frame (p : StationNo) (s : State) :
    (rotateTo p s).startup = s.startup ∧ (rotateTo p s).disagree = s.disagree ∧ (rotateTo p s).points = s.points ∧
    (rotateTo p s).list = s.list ∧ (rotateTo p s).member = s.member ∧ (rotateTo p s).peers = s.peers ∧
    (rotateTo p s).mirror = s.mirror ∧ (rotateTo p s).keys = s.keys ∧ (rotateTo p s).queue = s.queue ∧
    (rotateTo p s).time = s.time ∧ (rotateTo p s).panel = s.panel ∧ (rotateTo p s).pins = s.pins ∧
    (rotateTo p s).pending = s.pending := by
  simp [rotateTo]

/-- What a peer's frame can reach (Table 27). -/
@[simp] theorem takePeerFrame_frame (f : Frame) (s : State) :
    (takePeerFrame f s).startup = s.startup ∧ (takePeerFrame f s).disagree = s.disagree ∧
    (takePeerFrame f s).keys = s.keys ∧ (takePeerFrame f s).pins = s.pins ∧ (takePeerFrame f s).pending = s.pending := by
  simp [takePeerFrame]

/-- An own-number frame reaches no other block (R70). -/
@[simp] theorem takeOwnNumberFrame_frame (s : State) :
    (takeOwnNumberFrame s).startup = s.startup ∧ (takeOwnNumberFrame s).disagree = s.disagree ∧
    (takeOwnNumberFrame s).list = s.list ∧ (takeOwnNumberFrame s).peers = s.peers ∧
    (takeOwnNumberFrame s).keys = s.keys ∧ (takeOwnNumberFrame s).queue = s.queue ∧
    (takeOwnNumberFrame s).time = s.time ∧ (takeOwnNumberFrame s).panel = s.panel ∧
    (takeOwnNumberFrame s).pins = s.pins ∧ (takeOwnNumberFrame s).pending = s.pending := by
  simp [takeOwnNumberFrame]

/-- As `takePeerFrame_frame`. -/
@[simp] theorem takeFrame_frame (f : Frame) (s : State) :
    (takeFrame f s).startup = s.startup ∧ (takeFrame f s).disagree = s.disagree ∧ (takeFrame f s).keys = s.keys ∧
    (takeFrame f s).pins = s.pins ∧ (takeFrame f s).pending = s.pending := by
  simp only [takeFrame]
  (repeat' split) <;> simp

/-- A frame that has passed changes the pins only. -/
@[simp] theorem passOwnNumberFrame_frame (s : State) :
    (passOwnNumberFrame s).startup = s.startup ∧ (passOwnNumberFrame s).disagree = s.disagree ∧
    (passOwnNumberFrame s).points = s.points ∧ (passOwnNumberFrame s).list = s.list ∧
    (passOwnNumberFrame s).line = s.line ∧ (passOwnNumberFrame s).access = s.access ∧
    (passOwnNumberFrame s).member = s.member ∧ (passOwnNumberFrame s).peers = s.peers ∧
    (passOwnNumberFrame s).mirror = s.mirror ∧ (passOwnNumberFrame s).keys = s.keys ∧
    (passOwnNumberFrame s).queue = s.queue ∧ (passOwnNumberFrame s).time = s.time ∧
    (passOwnNumberFrame s).panel = s.panel ∧ (passOwnNumberFrame s).pending = s.pending := by
  simp [passOwnNumberFrame]

/-- What the line clock advances (R28). -/
@[simp] theorem tickLine_frame (s : State) :
    (tickLine s).startup = s.startup ∧ (tickLine s).disagree = s.disagree ∧ (tickLine s).points = s.points ∧
    (tickLine s).list = s.list ∧ (tickLine s).access = s.access ∧ (tickLine s).member = s.member ∧
    (tickLine s).peers = s.peers ∧ (tickLine s).mirror = s.mirror ∧ (tickLine s).keys = s.keys ∧
    (tickLine s).queue = s.queue ∧ (tickLine s).time = s.time ∧ (tickLine s).panel = s.panel ∧
    (tickLine s).pending = s.pending := by
  simp only [tickLine]
  (repeat' split) <;> simp

/-- What a tick advances. -/
@[simp] theorem tickCounters_frame (s : State) :
    (tickCounters s).disagree = s.disagree ∧ (tickCounters s).points = s.points ∧ (tickCounters s).list = s.list ∧
    (tickCounters s).line = s.line ∧ (tickCounters s).mirror = s.mirror ∧ (tickCounters s).keys = s.keys ∧
    (tickCounters s).queue = s.queue ∧ (tickCounters s).pins = s.pins ∧ (tickCounters s).pending = s.pending := by
  simp [tickCounters]

end Sys2Proof.Machine
end

