-- ==== Sys2Proof/Laws/Values.lean ====
section
/-! SUPPORT. What the shared operations give: registers, rows, records, the Announcement List and the wheel. Together with the frame
lemmas these say all that an operation can do, so that a proof need not unfold it. -/

namespace Sys2Proof.Machine

/-! ### First-out registers -/

@[simp] theorem FirstOut.get_g0 (f : FirstOut) : f.get .g0 = none := rfl

theorem FirstOut.get_put (f : FirstOut) (g k : FirstOutGroup) (x : Option PointRef) :
    (f.put g x).get k = if k = g ∧ g ≠ .g0 then x else f.get k := by
  cases g <;> cases k <;> simp [FirstOut.put, FirstOut.get]

theorem FirstOut.get_take (f : FirstOut) (g k : FirstOutGroup) (p : PointRef) :
    (f.take g p).get k = if k = g ∧ g ≠ .g0 ∧ f.get k = none then some p else f.get k := by
  unfold FirstOut.take
  split
  · rw [FirstOut.get_put]; grind
  · grind

theorem FirstOut.get_dropAt (f : FirstOut) (g k : FirstOutGroup) (p : PointRef) :
    (f.dropAt g p).get k = if k = g ∧ f.get k = some p then none else f.get k := by
  unfold FirstOut.dropAt
  split
  · rw [FirstOut.get_put]
    cases g <;> grind [FirstOut.get_g0]
  · grind

theorem FirstOut.get_dropIf (f : FirstOut) (test : PointRef → Bool) (k : FirstOutGroup) :
    (f.dropIf test).get k = (f.get k).filter fun p => !test p := by
  cases k <;> rfl

/-! ### Rows -/

/-- Replacing the rows of station `p` reaches them and no others. -/
theorem setRows_get (p q : StationNo) (i : PointIndex) (f : PointIndex → MirrorRow → MirrorRow) (m : MirrorTable) :
    (setRows p f m).remote[q][i] = if q = p then f i m.remote[p][i] else m.remote[q][i] := by
  simp only [setRows, get_set_fin]
  split
  · exact get_ofFn_fin _ _
  · rfl

@[simp] theorem setRows_firstOut (p : StationNo) (f : PointIndex → MirrorRow → MirrorRow) (m : MirrorTable) :
    (setRows p f m).firstOut = m.firstOut := rfl

@[simp] theorem setRows_ownHorn (p : StationNo) (f : PointIndex → MirrorRow → MirrorRow) (m : MirrorTable) :
    (setRows p f m).ownHorn = m.ownHorn := rfl

/-! ### The Announcement List -/

/-- An append lists the point and keeps what is listed (R83). -/
theorem mem_append (i j : PointIndex) (l : List PointIndex) : j ∈ append i l ↔ j ∈ l ∨ j = i := by
  unfold append; split <;> grind

/-- An append keeps the list without repeats (R82). -/
theorem nodup_append (i : PointIndex) (l : List PointIndex) (h : l.Nodup) : (append i l).Nodup := by
  unfold append
  split
  · exact h
  · next hi => exact List.nodup_append.mpr ⟨h, by simp, by grind⟩

/-- After a full refresh a point is listed exactly if it was or is enabled (R84). -/
theorem mem_fullRefresh (s : State) (i : PointIndex) :
    i ∈ (fullRefresh s).list ↔ i ∈ s.list ∨ s.points[i].enabled = true := by
  simp only [fullRefresh, List.mem_append, List.mem_filter, List.mem_finRange, true_and, Bool.and_eq_true,
    Bool.not_eq_true', List.contains_eq_mem, decide_eq_false_iff_not]
  tauto

/-- A full refresh keeps the list without repeats (R82). -/
theorem nodup_fullRefresh (s : State) (h : s.list.Nodup) : (fullRefresh s).list.Nodup := by
  refine List.nodup_append.mpr ⟨h, (List.nodup_finRange 16).filter _, ?_⟩
  intro a ha b hb e
  subst e
  simp [ha] at hb

/-! ### Own records -/

/-- Publishing what is published already changes nothing. -/
theorem OwnPoint.published_same (r : OwnPoint) (x : Option PointPair) (h : r.published = x) :
    { r with published := x } = r := by
  subst h; rfl

/-- A publication writes the published pair of its point and no other field of any record (R91). -/
theorem publish_points (i j : PointIndex) (pair : PointPair) (s : State) :
    (publish i pair s).points[j] =
      if j = i then { s.points[j] with published := some pair } else s.points[j] := by
  simp only [publish, get_set_fin]
  split
  · next h => rw [h]
  · rfl

@[simp] theorem publish_remote (i : PointIndex) (pair : PointPair) (s : State) :
    (publish i pair s).mirror.remote = s.mirror.remote := rfl

/-- The catch-up on one point publishes its present pair if it has no snapshot (R94); a pair already published is the same
again. -/
theorem catchUpPoint_points (s : State) (i j : PointIndex) :
    (catchUpPoint s i).points[j] =
      if j = i ∧ s.points[j].snapshot = none then
        { s.points[j] with published := some (pairOf s.points[j]) }
      else s.points[j] := by
  by_cases h : s.points[i].snapshot = none ∧ s.points[i].published ≠ some (pairOf s.points[i])
  · have hu : catchUpPoint s i = publish i (pairOf s.points[i]) s := if_pos h
    rw [hu, publish_points]
    by_cases e : j = i
    · subst e; rw [if_pos rfl, if_pos ⟨rfl, h.1⟩]
    · rw [if_neg e, if_neg (fun c => e c.1)]
  · have hu : catchUpPoint s i = s := if_neg h
    rw [hu]
    split
    · next c =>
      obtain ⟨rfl, hs⟩ := c
      have hp : s.points[j].published = some (pairOf s.points[j]) := by
        by_contra hc; exact h ⟨hs, hc⟩
      exact (OwnPoint.published_same _ _ hp).symm
    · rfl

@[simp] theorem catchUpPoint_remote (s : State) (i : PointIndex) :
    (catchUpPoint s i).mirror.remote = s.mirror.remote := by
  simp only [catchUpPoint]
  split <;> rfl

/-- The catch-up publishes every listed point without a snapshot and changes no record otherwise (R94). -/
theorem catchUp_points (s : State) (j : PointIndex) :
    (catchUp s).points[j] =
      if j ∈ s.list ∧ s.points[j].snapshot = none then
        { s.points[j] with published := some (pairOf s.points[j]) }
      else s.points[j] := by
  have key : ∀ (l : List PointIndex) (s : State),
      (l.foldl catchUpPoint s).points[j] =
        if j ∈ l ∧ s.points[j].snapshot = none then
          { s.points[j] with published := some (pairOf s.points[j]) }
        else s.points[j] := by
    intro l
    induction l with
    | nil => simp
    | cons i l ih =>
      intro s
      rw [List.foldl_cons, ih, catchUpPoint_points]
      by_cases e : j = i
      · subst e
        by_cases hs : s.points[j].snapshot = none <;> by_cases hl : j ∈ l <;>
          simp only [hs, hl, List.mem_cons, and_true, and_false, and_self, or_true, or_false, if_true, if_false, pairOf]
      · by_cases hs : s.points[j].snapshot = none <;> by_cases hl : j ∈ l <;>
          simp only [hs, hl, e, List.mem_cons, and_true, and_false, or_true, or_false, if_true, if_false, pairOf]
  exact key s.list s

@[simp] theorem catchUp_remote (s : State) : (catchUp s).mirror.remote = s.mirror.remote :=
  foldl_keeps (proj := fun s : State => s.mirror.remote) (fun s i => catchUpPoint_remote s i) _ _

/-- The move of a state change writes the state and the version; in local publication mode also the published pair, and it
takes the snapshot away (R17, R22, R93). -/
theorem stateChange_points (i j : PointIndex) (new : PointState) (s : State) :
    (stateChange i new s).points[j] =
      if j = i then
        { s.points[j] with
          state := new, version := versionAfter new s.points[j].version
          published :=
            if localMode s then some { state := new, version := versionAfter new s.points[j].version }
            else s.points[j].published
          snapshot := if localMode s then none else s.points[j].snapshot }
      else s.points[j] := by
  have hm : ∀ pts m l, localMode { s with points := pts, mirror := m, list := l } = localMode s := fun _ _ _ => rfl
  simp only [stateChange, publishChange, hm]
  by_cases e : j = i
  · subst e
    split <;> simp only [publish_points, get_set_fin, if_true, pairOf]
  · split <;> simp only [publish_points, get_set_fin, e, if_false]

/-- A state change lists its point (R83). -/
theorem stateChange_list (i : PointIndex) (new : PointState) (s : State) :
    (stateChange i new s).list = append i s.list := by
  simp [stateChange]

@[simp] theorem stateChange_remote (i : PointIndex) (new : PointState) (s : State) :
    (stateChange i new s).mirror.remote = s.mirror.remote := by
  simp only [stateChange, publishChange]
  split <;> rfl

/-- A claim with a version leaves the state as it is, or is one state change of an enabled point of that version (R11,
R18). -/
theorem versionedClaim_cases (moveOf : PointMode → PointState → Option PointState) (i : PointIndex) (v : Version)
    (s : State) :
    versionedClaim moveOf i v s = s ∨
      ∃ new, s.points[i].enabled = true ∧ v = s.points[i].version ∧
        moveOf s.points[i].mode s.points[i].state = some new ∧ versionedClaim moveOf i v s = stateChange i new s := by
  simp only [versionedClaim]
  split
  · next h =>
    cases hm : moveOf s.points[i].mode s.points[i].state with
    | none => exact .inl rfl
    | some new => exact .inr ⟨new, h.1, h.2, rfl, rfl⟩
  · exact .inl rfl

/-! ### The horn (R153) -/

/-- What an event does to the Panel Driver's horn: nothing but that the period in progress is cut or not. -/
@[simp] theorem noteHorn_panel (s : State) :
    (noteHorn s).panel = { s.panel with hornCut := s.panel.hornPeriod.isSome && !sounding s } := rfl

/-! ### Adoption (R143, R144) -/

/-- Adoption with the elapsed count running: the whole of what it does to the Blink Timebase (R142, R143). -/
theorem adopt_time (h : Header) (s : State) (n : Nat) (hn : s.time.elapsed = some n) :
    (adopt h s).time =
      { tickCount := s.time.tickCount
        wheel := if reference s = h.sender then adoptedWheel (frameMeetsTick s) h n else s.time.wheel
        elapsed := none } := by
  simp [adopt, hn]

theorem adopt_absent (h : Header) (s : State) (hn : s.time.elapsed = none) : adopt h s = s := by
  simp [adopt, hn]

/-- A tick that came together with the frame and was taken before it has no part in the wheel that the adoption sets (R144). -/
theorem adoptedWheel_overwrites_tick (h : Header) (n : Nat) : adoptedWheel true h (n + 1) = adoptedWheel false h n := rfl

end Sys2Proof.Machine
end

