-- ==== Sys2Proof/Tests/Slice0.lean ====
section
/-! SUPPORT. Checks of the model's own: the WellFormed smoke tests, words and frames written out from the spec, one step of
each command on a small state, and for each statement with hypotheses a state and operands that meet them. -/

namespace Sys2Proof.Tests

set_option Elab.async false

open Sys2Proof Sys2Proof.Machine Sys2Proof.Safety

/-! ### Small states -/

/-- Station 5 outside reset, in this membership state, on a QUIET line, with station 2 PRESENT (last sequence 7). -/
def running (own : Membership) : State :=
  { State.reset with
    startup := { State.reset.startup with causes := noCauses, straps := { station := 5, lineRate := 1, cfgen := false } }
    line := { receiver := .idle, status := .quiet, quietCount := 24, jamCount := 0, windows := .highSample
              decided := 0, windowPart := 0 }
    member := { MembershipController.reset with own := own }
    peers := State.reset.peers.set 2
      { state := .present, lastSequence := some 7, flags := noFlags, silence := .started } }

/-- Station 5 in SOLO: no peer is PRESENT. -/
def alone : State := { running .solo with peers := State.reset.peers }

/-- The same with the receiver in this state on a BUSY line, after half 1 of a mark or after a start mark, and 682 ticks
elapsed. -/
def receiving (rx : RxState) (s : State) : State :=
  { s with
    line := { s.line with
              receiver := rx, status := .busy, quietCount := if rx = .frame then 2 else 0
              jamCount := if rx = .frame then 4 else 0, decided := if rx = .frame then 8 else 1 }
    time := { s.time with elapsed := some 682 } }

/-- The same with an attempt of this body in progress. -/
def attempting (b : Body) (heard : Bool) (collision : Option Nat) (s : State) : State :=
  { s with
    line := { s.line with
              receiver := .transmit, status := if heard then .busy else .quiet, quietCount := if heard then 0 else 24
              decided := collision.getD (if heard then 8 else 0) }
    access := { s.access with
                attempt := some
                  { frame := { header := { sender := 5, sequence := 0, phaseStep := 0, phaseFine := 0, status := noFlags }
                               body := b }
                    phaseSampled := heard, heard := heard, collision := collision } } }

/-- Own point `i` with this mode, state and version, enabled, in group 1 and of class A. -/
def withPoint (i : PointIndex) (m : PointMode) (st : PointState) (v : Version) (s : State) : State :=
  { s with
    points := s.points.set i
      { OwnPoint.fresh Config.defaultPoint with
        mode := m, cls := .a, group := .g1, state := st, version := v
        condition := if st = .raised ∨ st = .held then .abnormal else .normal } }

/-- The count of input `i` is 3. -/
def almost (i : PointIndex) (s : State) : State := { s with disagree := s.disagree.set i 3 }

/-- Row 2.3 holds this pair in this group. -/
def withRow (pair : PointPair) (g : FirstOutGroup) (horn : Bool) (s : State) : State :=
  { s with
    mirror := { s.mirror with
                remote := s.mirror.remote.set 2 ((Vector.replicate 16 MirrorRow.vacant).set 3
                  { content := some pair, group := g, stale := false, horn := horn }) } }

/-- All four keys one sample short of a press. -/
def keysAlmost (s : State) : State :=
  { s with keys := { s.keys with
                     kack := { pressed := false, disagree := 3 }, krst := { pressed := false, disagree := 3 }
                     ksil := { pressed := false, disagree := 3 }, ktst := { pressed := false, disagree := 3 } } }

/-- Only these keys are down. -/
def down (kack krst ksil ktst : Bool) : KeyPins := { kack := !kack, krst := !krst, ksil := !ksil, ktst := !ktst }

/-- LOADING outside reset, with this many image bits read. -/
def reading (n : Nat) : State :=
  { State.reset with
    startup := { State.reset.startup with
                 causes := noCauses, straps := { station := 5, lineRate := 1, cfgen := true }, ccs := false
                 image := List.replicate n false } }

/-- A header from station 2. -/
def header2 (seq : SeqNo) : Header :=
  { sender := 2, sequence := seq, phaseStep := 15, phaseFine := 200, status := noFlags }

/-- The state after a command. -/
def after (c : Instr) (s : State) : State :=
  match exec c s with
  | .next t => t
  | _ => s

/-! ### WellFormed refuses -/

theorem test_wf_collision_zero : Instr.wellFormed (.collision 0) = false := by decide
theorem test_wf_collision_past_the_end : Instr.wellFormed (.collision 691) = false := by decide
theorem test_wf_collision_last_half : Instr.wellFormed (.collision 690) = true := by decide

/-- An entry without a mark. -/
def entry (i : PointIndex) : AnnounceEntry := { index := i, state := .raised, group := .g1, mark := false, version := 1 }

theorem test_wf_announce_no_entry : Instr.wellFormed (.receiveAnnounce (header2 8) []) = false := by decide
theorem test_wf_announce_index_twice :
    Instr.wellFormed (.receiveAnnounce (header2 8) [entry 3, entry 4, entry 3]) = false := by decide
theorem test_wf_announce_mark_in_group_0 :
    Instr.wellFormed (.receiveAnnounce (header2 8) [{ entry 3 with group := .g0, mark := true }]) = false := by decide
theorem test_wf_announce_sixteen :
    Instr.wellFormed (.receiveAnnounce (header2 8) ((List.finRange 16).map entry)) = true := by decide
theorem test_wf_pairs_none : Instr.wellFormed (.receiveAckReq (header2 8) 5 []) = false := by decide
theorem test_wf_pairs_falling :
    Instr.wellFormed (.receiveResetReq (header2 8) 5 [{ index := 4, version := 1 }, { index := 3, version := 1 }]) =
      false := by decide

/-! ### Words written out from the spec -/

/-- R34: the check of the nine bytes "123456789" under this polynomial, initial value and bit order is 29B1h (PRESUMED: the
published check value of the CRC with these parameters). -/
theorem test_check_of_nine_digits :
    checkOf ([0x31, 0x32, 0x33, 0x34, 0x35, 0x36, 0x37, 0x38, 0x39].flatMap (toBits 8)) = 0x29B1 := by decide +kernel

/-- Table 24: a REFRESH-REQ of station 2 to station 5, sequence 8, step 15, fine 200, no flags; sender, kind, sequence,
step, fine, status, target. -/
theorem test_refresh_request_bits :
    frameCovered { header := header2 8, body := .refreshReq 5 } =
      [false, false, true, false,  false, true, true, false,  false, false, false, false, true, false, false, false,
       true, true, true, true,  true, true, false, false, true, false, false, false,  false, false, false, false,
       false, true, false, true] := by decide +kernel

/-- Table 24: entry 3, RAISED, group 1, marked, version 1. -/
theorem test_announce_entry_bits :
    entryBits { entry 3 with mark := true } =
      [false, false, true, true,  false, false, true,  false, true,  true,
       false, false, false, false, false, false, false, true] := by decide +kernel

/-- R33, Table 26: kind 8 is out of range at the end of the kind field. -/
theorem test_kind_eight_is_damaged :
    receiveHalves (([false, false, true, false, true, false, false, false] : List Bool).flatMap bitHalves) = .damaged := by
  decide +kernel

/-- R25: a lost carrier in the third data bit is a damaged frame. -/
theorem test_lost_carrier_is_damaged :
    receiveHalves [true, false, false, true, false, false] = .damaged := by decide +kernel

/-- R30: a mark that lasts one half too long is unframed carrier, found at half 7. -/
theorem test_long_mark_is_unframed :
    markOutcome [true, true, true, true, true, true, true] = .unframed 7 := by decide

/-- R27: five of eight samples make a carrier half, four do not. -/
theorem test_majority_of_five :
    decideHalf ⟨#[true, true, true, true, true, false, false, false], rfl⟩ = true ∧
      decideHalf ⟨#[true, true, true, true, false, false, false, false], rfl⟩ = false := by decide +kernel

/-- R164: an image whose byte 0 is not 5Ah is refused. -/
theorem test_zero_image_refused : imageAccepted (List.replicate 160 false) 0 = false := by decide +kernel

/-! ### One step of each command -/

theorem test_station_reset_stops_the_receiver :
    (after (.stationReset .resetPin) (receiving .frame (running .group))).line.receiver = .off := by decide +kernel
/-- Strap pins with only SN3, LR1 and, where asked, CFGEN high. -/
def strapped (cfgen : Bool) : StrapPins :=
  { sn3 := true, sn2 := false, sn1 := false, sn0 := false, lr1 := true, lr0 := false, cfgen := cfgen }

/-- Table 83: SN3 and LR1 are the most significant, and a high pin is 1. -/
theorem test_release_reads_the_straps :
    (after (.releaseOfReset (strapped true)) State.reset).startup.straps = { station := 8, lineRate := 2, cfgen := true } := by
  decide +kernel
/-- Table 4, R23: line rate code 2 is 19200 bit/s, with 16 periods of the line clock in each. -/
theorem test_release_sets_the_line_clock :
    stationLineClock (after (.releaseOfReset (strapped false)) State.reset) = 307200 := by decide +kernel
theorem test_cdi_sample_shifts_in :
    (after (.cdiSample true) (reading 3)).startup.image = [false, false, false, true] := by decide +kernel
theorem test_end_of_loading_refuses_zero_image :
    (after .endOfLoading (reading 160)).startup.configFault = true ∧
      (after .endOfLoading (reading 160)).member.own = .listen := by decide +kernel
/-- Table 12, row QUIET: RAISED with version 1, listed, at the fourth sample of an open contact. -/
theorem test_field_input_raises :
    ((after (.fieldInputSample .a 0xFFFF) (almost 4 (withPoint 4 .locking .quiet 0 (running .group)))).points[4]).state =
      .raised ∧
    (after (.fieldInputSample .a 0xFFFF) (almost 4 (withPoint 4 .locking .quiet 0 (running .group)))).list = [4] := by
  decide +kernel
/-- R17: the version wraps from 255 to 0. -/
theorem test_version_wraps :
    ((after (.fieldInputSample .a 0xFFFF) (almost 4 (withPoint 4 .following .quiet 255 (running .group)))).points[4]).version =
      0 := by decide +kernel
theorem test_kack_acknowledges :
    ((after (.keySample (down true false false false))
      (keysAlmost (withPoint 4 .locking .lapsed 7 (running .group)))).points[4]).state = .cleared := by decide +kernel
/-- R116: one sample that presses KACK and KRST takes a LAPSED point to QUIET. -/
theorem test_kack_then_krst :
    ((after (.keySample (down true true false false))
      (keysAlmost (withPoint 4 .locking .lapsed 7 (running .group)))).points[4]).state = .quiet := by decide +kernel
theorem test_ksil_queues_silence :
    ((after (.keySample (down false false true false)) (keysAlmost (running .group))).queue.entries.map (·.request)) =
      [.silence] := by decide +kernel
theorem test_line_busy_ends_ladder :
    (after .lineBusy { running .group with
      line := { (running .group).line with receiver := .mark }
      access := { AccessController.reset with ladder := some { rep := 1, nextSlot := 4 } } }).access.ladder = none := by
  decide +kernel
theorem test_line_quiet_starts_ladder :
    (after .lineQuiet (receiving .wait (running .group))).access.ladder = some { rep := 0, nextSlot := 0 } := by
  decide +kernel
theorem test_ladder_repeats :
    (after .ladderRepeat { running .group with
      access := { AccessController.reset with ladder := some { rep := 1, nextSlot := 22 } } }).access.ladder =
      some { rep := 2, nextSlot := 0 } := by decide +kernel
theorem test_ladder_after_unheard :
    (after .ladderStartAfterUnheardAttempt { running .group with
      access := { AccessController.reset with unheardWait := true } }).access.ladder =
      some { rep := 0, nextSlot := 0 } := by decide +kernel

/-- Table 32: station 5 has rank 11 at rotation 10. -/
theorem test_rank :
    rank { running .group with access := { AccessController.reset with rotation := 10 } } = 11 := by decide +kernel

/-- A ladder at slot 0, and DEPART pending. -/
def laddered (depart : Bool) (list : List PointIndex) (s : State) : State :=
  { s with
    access := { s.access with ladder := some { rep := 0, nextSlot := 0 } }
    member := { s.member with departPending := depart }, list := list }

theorem test_slot_sends_depart_first :
    (after (.slotStart .urgent) (laddered true [3] (running .warning))).access.attempt.map (·.frame.body) =
      some .depart := by decide +kernel
theorem test_slot_not_in_listen :
    (after (.slotStart .urgent) (laddered false [3] (running .listen))).access.attempt = none := by decide +kernel

/-- The wheel at 32767, in an attempt whose start mark ends. -/
def wheeled : State :=
  { attempting .silence false none (running .group) with time := { tickCount := 32767, wheel := 32767, elapsed := none } }

/-- The same after the first half of the start mark was heard. -/
def wheeledBusy : State := after .lineBusy wheeled

theorem test_phase_sampled :
    (after .ownStartMarkEnd wheeled).access.attempt.map (fun a => (a.frame.header.phaseStep, a.frame.header.phaseFine)) =
      some (15, 255) := by decide +kernel
theorem test_collision_marked :
    (after (.collision 9) (attempting .silence true none (running .group))).access.attempt.map (·.collision) =
      some (some 9) := by decide +kernel
/-- R51, R139: half 8 ends the start mark, and a collision found there is taken after the sampling too; carrier was heard in
it. -/
theorem test_collision_at_the_mark_end :
    (after (.collision 8) (after .ownStartMarkEnd wheeledBusy)).access.attempt.map (·.collision) = some (some 8) ∧
      (after (.collision 8) (after .ownStartMarkEnd wheeledBusy)).line.quietCount = 0 ∧
      (after .ownStartMarkEnd (after (.collision 8) wheeledBusy)) =
        (after (.collision 8) (after .ownStartMarkEnd wheeledBusy)) := by decide +kernel
theorem test_success_moves_rotation :
    (after .attemptSuccess (attempting (.presence 0xFFFF) true none (running .group))).access.rotation = 6 := by
  decide +kernel
theorem test_failure_unheard_goes_idle :
    (after .attemptFailure (attempting (.presence 0xFFFF) false (some 1) (running .group))).line.receiver = .idle := by
  decide +kernel
theorem test_jam_sets_line_fault :
    (after .jamEvent (receiving .wait (running .listen))).access.lineFault = true := by decide +kernel

/-- The presence timer at this many ticks; P is one second. -/
def presenceAt (n : Nat) : State :=
  { running .group with access := { AccessController.reset with presenceTimer := { running := true, ticks := n } } }

/-- LISTEN with the listen timer at this many ticks. -/
def listenAt (n : Nat) : State :=
  { running .listen with
    member := { (running .listen).member with listenTimer := { running := true, ticks := n } } }

/-- Station 2 PRESENT, with its lost timer at this many ticks. -/
def silentAt (n : Nat) : State :=
  { running .group with
    peers := State.reset.peers.set 2
      { state := .present, lastSequence := some 7, flags := noFlags, silence := { running := true, ticks := n } } }

theorem test_presence_expires :
    (after .presenceTimerExpiry (presenceAt 32768)).access.presencePending = true ∧
      (after .presenceTimerExpiry (presenceAt 32768)).access.presenceTimer.ticks = 32768 := by decide +kernel
theorem test_listen_ends_in_solo :
    (after .listenWindowEnd { listenAt 65536 with peers := State.reset.peers }).member.own = .solo := by decide +kernel
theorem test_listen_ends_in_group : (after .listenWindowEnd (listenAt 65536)).member.own = .group := by decide +kernel
theorem test_last_peer_lost_makes_solo : (after (.lostTimerExpiry 2) (silentAt 98304)).member.own = .solo := by
  decide +kernel
/-- R78: a frame that is taken first starts the lost timer again, and the peer stays PRESENT. -/
theorem test_frame_before_the_expiry :
    ((after (.lostTimerExpiry 2)
      (after (.receiveSilence (header2 8)) (receiving .frame (silentAt 98304)))).peers[2]).state = .present := by
  decide +kernel
theorem test_warning_from_listen :
    (after .supplyWarningEvent (running .listen)).member.returnState = some .listen := by decide +kernel

/-- WARNING with the flag set, having come from this state, with a DEPART in flight or not. -/
def warned (r : ReturnState) (inFlight : Bool) : State :=
  let s := if inFlight then attempting .depart false none (running .warning) else running .warning
  { s with
    startup := { s.startup with supplyWarning := true }
    member := { s.member with departPending := true, returnState := some r } }

theorem test_recovery_held_in_flight : (after .supplyRecoveryEvent (warned .group true)).member.heldRecovery = true := by
  decide +kernel
theorem test_recovery_to_listen : (after .supplyRecoveryEvent (warned .listen false)).member.own = .listen := by
  decide +kernel
theorem test_start_of_frame_elapsed :
    (after .startOfFrame (receiving .mark (running .group))).time.elapsed = some 0 := by decide +kernel
/-- R28, R38: halves 7 and 8 of the start mark are without carrier, and it is 4 BT long. -/
theorem test_start_of_frame_counts :
    (after .startOfFrame (receiving .mark (running .group))).line.quietCount = 2 ∧
      (after .startOfFrame (receiving .mark (running .group))).line.jamCount = 4 := by decide +kernel
theorem test_damaged_frame :
    (after .damagedFrame (receiving .frame (running .group))).time.elapsed = none := by decide +kernel
theorem test_first_high_sample : (after .firstHighSample (running .group)).line.receiver = .mark := by decide +kernel
theorem test_spike :
    (after .spike { running .group with line := { (running .group).line with receiver := .mark } }).line.receiver =
      .idle := by decide +kernel
theorem test_unframed : (after .unframedCarrier (receiving .mark (running .group))).line.receiver = .wait := by
  decide +kernel

/-- R143: step 15, fine 200 and 682 ticks give 15 * 2048 + 1600 + 682 = 33002, that is 234; R144: one tick less where the last
tick came together with the frame and was taken before it. -/
theorem test_adopted_wheel :
    adoptedWheel false (header2 8) 682 = 234 ∧ adoptedWheel true (header2 8) 682 = 233 := by decide +kernel
/-- The reference adopts, and the free value says which of the two it is. -/
theorem test_presence_adopts :
    (after (.receivePresence (header2 8) 0xFFFF) (receiving .frame (running .group))).time.wheel =
      234 := by decide +kernel
/-- A frame ends at the very moment of the tick to this count. -/
def endingAt (k : Nat) (s : State) : State := { s with pins := { s.pins with frameEnds := [k] } }

/-- R144: the tick before the frame is overwritten where the frame ends at its very moment. -/
theorem test_presence_overwrites_tick :
    (after (.receivePresence (header2 8) 0xFFFF) (endingAt 0 (receiving .frame (running .group)))).time.wheel = 233 := by
  decide +kernel
theorem test_hello_asks_refresh :
    (after (.receiveHello (header2 8) 0xFFFF) (receiving .frame (running .group))).list.length = 16 := by decide +kernel
theorem test_announce_first_out :
    (after (.receiveAnnounce (header2 8) [entry 3, entry 4]) (receiving .frame (running .group))).mirror.firstOut.r1 =
      some { owner := 2, index := 3 } := by decide +kernel
/-- Table 45: a sequence that does not follow asks for a refresh. -/
theorem test_sequence_gap_asks_refresh :
    ((after (.receiveAnnounce (header2 10) [entry 3]) (receiving .frame (running .group))).queue.entries.map (·.request)) =
      [.refreshReq 2] := by decide +kernel
/-- Table 25: a SILENCE is 52 BT long, the start mark among them. -/
theorem test_frame_counts_its_bit_times :
    (after (.receiveSilence (header2 8)) (receiving .frame (running .group))).line.jamCount = 52 := by decide +kernel
/-- Table 13: RAISED and a pair of equal version: HELD; of another version: RAISED. -/
theorem test_ack_request_equal_version :
    ((after (.receiveAckReq (header2 8) 5 [{ index := 4, version := 7 }])
      (receiving .frame (withPoint 4 .locking .raised 7 (running .group)))).points[4]).state = .held := by decide +kernel
theorem test_ack_request_stale :
    ((after (.receiveAckReq (header2 8) 5 [{ index := 4, version := 6 }])
      (receiving .frame (withPoint 4 .locking .raised 7 (running .group)))).points[4]).state = .raised := by
  decide +kernel
theorem test_reset_request :
    ((after (.receiveResetReq (header2 8) 5 [{ index := 4, version := 7 }])
      (receiving .frame (withPoint 4 .locking .cleared 7 (running .group)))).points[4]).state = .quiet := by decide +kernel
theorem test_refresh_request_lists :
    (after (.receiveRefreshReq (header2 8) 5) (receiving .frame (running .group))).list = List.finRange 16 := by
  decide +kernel
theorem test_silence_clears :
    ((after (.receiveSilence (header2 8))
      (receiving .frame (withRow { state := .raised, version := 1 } .g1 true (running .group)))).mirror.remote[2][3]).horn =
      false := by decide +kernel
theorem test_depart_marks_stale :
    ((after (.receiveDepart (header2 8))
      (receiving .frame (withRow { state := .raised, version := 1 } .g1 true (running .group)))).mirror.remote[2][3]).stale =
      true := by decide +kernel
/-- A frame of station 5 on LRX, its own number: a SILENCE, of 52 BT (Table 25). -/
def echoed : State :=
  let s := receiving .frame (running .group)
  { s with
    pins := { s.pins with
              lrx := ((frameHalves { header := { header2 8 with sender := 5 }, body := .silence }).drop 8).map
                (Vector.replicate 8) } }

theorem test_own_number_frame_on_lrx_is_counted :
    (after .receiveOwnNumberFrame echoed).line.jamCount = 52 ∧ (after .receiveOwnNumberFrame echoed).pins.lrx = [] := by
  decide +kernel
theorem test_own_number :
    (after .receiveOwnNumberFrame (receiving .frame (running .group))).member.own = .duplicate := by decide +kernel

/-- The panel at the end of common 7. -/
def paneled : State :=
  { withRow { state := .held, version := 1 } .g1 false (running .group) with
    panel := { PanelDriver.reset with common := some 2 } }

/-- R147: point 2.3, group point 35, is on segment 4, common 3. -/
theorem test_cell_of_point_2_3 : (after .commonPeriodStart paneled).panel.cells[4] = true := by decide +kernel
theorem test_tone_begins_under_test :
    (after (.toneInstant .of16) { running .group with keys := { KeyScanner.reset with testHeld := true } }).panel.hornPeriod =
      some { tone := .high, elapsed := 0 } := by decide +kernel

/-! ### The tick in WAIT -/

/-- Station 5 in WAIT at 9600 bit/s, so 19200 halves and 32768 ticks a second, with these counts, 13568 / 32768 of a half
passed, this many halves decided and these samples on LRX: the next tick ends a half. -/
def waiting (quiet : Fin 25) (jam : Fin 2049) (decided : Nat) (lrx : List (Vector Bool 8)) : State :=
  let s := receiving .wait (running .group)
  { s with
    line := { s.line with quietCount := quiet, jamCount := jam, decided := decided, windowPart := 13568 }
    pins := { s.pins with lrx := lrx } }

/-- The state after a step. -/
def stepped (s : State) : State :=
  match step s with
  | .next t => t
  | _ => s

/-- TEST held and sounding, KTST one sample short of a release, and own point 4 one sample short of a raise. -/
def ringing : State :=
  let s := almost 4 (withPoint 4 .locking .quiet 0 (running .group))
  { s with
    keys := { s.keys with ktst := { pressed := true, disagree := 3 }, testHeld := true }
    panel := { s.panel with hornPeriod := some { tone := .high, elapsed := 2 } } }

/-- R153: the release of KTST alone cuts the tone at the next tick; with a raise between the same ticks it does not, in either
order. -/
theorem test_release_and_raise_in_either_order :
    let release := after (.keySample (down false false false false))
    let raise := after (.fieldInputSample .a 0xFFFF)
    (stepped (release ringing)).panel.hornPeriod = none ∧
      (stepped (raise (release ringing))).panel.hornPeriod = some { tone := .high, elapsed := 3 } ∧
      (stepped (release (raise ringing))).panel.hornPeriod = some { tone := .high, elapsed := 3 } := by decide +kernel

/-- R28: the 23rd half without carrier is counted, and the 24th is LINE_QUIET. -/
theorem test_tick_hears_quiet :
    (stepped (waiting 22 0 3 [])).line.quietCount = 23 ∧ (stepped (waiting 22 0 3 [])).pending = [] ∧
      (stepped (waiting 23 0 3 [])).pending = [.lineQuiet] := by decide +kernel
/-- R38: the 2048th BT on a BUSY line is JAM_EVENT, at its second half; a half with carrier clears the quiet count. -/
theorem test_tick_hears_a_jam :
    (stepped (waiting 7 2047 3 [Vector.replicate 8 true])).pending = [.jamEvent] ∧
      (stepped (waiting 7 2047 2 [Vector.replicate 8 true])).pending = [] ∧
      (stepped (waiting 7 2047 3 [Vector.replicate 8 true])).line.quietCount = 0 := by decide +kernel

/-- R38: at 38400 bit/s a tick may end two halves. The first ends the 2048th BT, and the second is the 24th without carrier:
JAM_EVENT comes first and sets LINE FAULT, and LINE_QUIET then clears the count. -/
def fast : State :=
  let s := waiting 22 2047 3 []
  { s with startup := { s.startup with straps := { s.startup.straps with lineRate := 3 } } }

theorem test_tick_hears_a_jam_then_quiet :
    (stepped fast).pending = [.jamEvent, .lineQuiet] ∧
      (stepped (stepped (stepped fast))).access.lineFault = true ∧
      (stepped (stepped (stepped fast))).line.status = .quiet ∧
      (stepped (stepped (stepped fast))).line.jamCount = 0 := by decide +kernel

/-! ### States that meet the hypotheses of each statement

One theorem for each statement with hypotheses, named after it; where a statement has several clauses, each clause has its
witness in it, at the boundary values of its ranges. -/

theorem witness_IdleStepIsOneTick :
    (running .group).pending = [] ∧ inReset (running .group) = false ∧ inReset State.reset = true ∧
      (presenceAt 32767).access.presenceTimer.ticks < presencePeriod (presenceAt 32767) ∧
      (listenAt 65535).member.listenTimer.ticks < listenWindow (listenAt 65535) ∧
      ((silentAt 98303).peers[2]).silence.ticks < lostLength (silentAt 98303) ∧
      (running .group).line.receiver ≠ .wait ∧
      (∀ q ∈ [(0 : Fin 25), 23], ∀ j ∈ [(0 : Fin 2049), 2047, 2048],
        (waiting q j 3 []).pending = [] ∧ inReset (waiting q j 3 []) = false ∧
          (waiting q j 3 []).line.receiver = .wait ∧ (waiting q j 3 []).line.status = .busy ∧
          (waiting q j 3 []).line.quietCount ≠ 24) ∧
      (Instr.jamEvent ∈ (stepped fast).pending ∧ Instr.lineQuiet ∈ (stepped fast).pending) :=
  ⟨by decide +kernel, by decide +kernel, by decide +kernel, by decide +kernel, by decide +kernel, by decide +kernel,
    by decide +kernel, by decide +kernel, by decide +kernel⟩

theorem witness_ReleaseLatchesStraps : ResetHeld State.reset ∧ inReset State.reset = true := by decide +kernel

theorem witness_CdiSampleTakesOneBit :
    (reading 0).member.own = .loading ∧ inReset (reading 0) = false ∧ (reading 0).startup.straps.cfgen = true ∧
      (reading 0).startup.image.length < 160 ∧ (reading 143).startup.image.length < 144 ∧
      144 ≤ (reading 144).startup.image.length ∧ (reading 159).startup.image.length < 160 := by decide +kernel

theorem witness_CheckRegisterFollowsTheImage : CheckFormed State.reset ∧ ∃ t, step State.reset = .next t :=
  ⟨by decide +kernel, _, rfl⟩

/-- LOADING with CFGEN 0. -/
def unread : State :=
  { reading 0 with
    startup := { (reading 0).startup with straps := { station := 5, lineRate := 1, cfgen := false }, ccs := true } }

/-- LOADING with the image of the default configuration read, and SUPPLY WARNING set. -/
def loaded : State :=
  { reading 0 with
    startup := { (reading 0).startup with
                 image := imageOf Config.defaults, check := checkOf ((imageOf Config.defaults).take 144)
                 supplyWarning := true } }

theorem witness_EndOfLoadingStartsTheStation :
    (LoadingQuiescent unread ∧ unread.member.own = .loading ∧ inReset unread = false ∧
      unread.startup.straps.cfgen = false) ∧
    (LoadingQuiescent (reading 160) ∧ inReset (reading 160) = false ∧ (reading 160).startup.image.length = 160) ∧
    (imageAccepted loaded.startup.image loaded.startup.check = true ∧ LoadingQuiescent loaded ∧
      loaded.member.own = .loading ∧ inReset loaded = false ∧ loaded.startup.image.length = 160) ∧
    loaded.startup.supplyWarning = true ∧ unread.startup.supplyWarning = false :=
  ⟨by decide +kernel, by decide +kernel, by decide +kernel, by decide +kernel, by decide +kernel⟩

theorem witness_FieldInputSampleDebouncesEveryPoint :
    loading (running .group) = false ∧ localMode (running .group) = false ∧ localMode alone = true := by decide +kernel

/-- Point 4 in this mode and state, with its input one sample short of a change. -/
def due (m : PointMode) (st : PointState) : State := almost 4 (withPoint 4 m st 7 (running .group))

theorem witness_ConditionChangeMovesThePoint :
    loading (due .locking .quiet) = false ∧
      (∀ st ∈ [PointState.quiet, .lapsed, .cleared],
        changesAt .a 0xFFFF (due .locking st) 4 = true ∧ seenAt 0xFFFF (due .locking st) 4 = .abnormal) ∧
      (∀ st ∈ [PointState.raised, .held],
        changesAt .c 0 (due .locking st) 4 = true ∧ seenAt 0 (due .locking st) 4 = .normal ∧
        changesAt .b 0 (due .following st) 4 = true ∧ seenAt 0 (due .following st) 4 = .normal) ∧
      changesAt .a 0xFFFF (due .following .quiet) 4 = true ∧ seenAt 0xFFFF (due .following .quiet) 4 = .abnormal := by
  decide +kernel

theorem witness_VersionChangesOnlyAtARaise :
    (∃ t, exec (.fieldInputSample .a 0xFFFF) (due .locking .quiet) = .next t ∧ t.points[4].state = .raised) ∧
      ∃ t, exec (.stationReset .powerOn) (due .locking .quiet) = .next t :=
  ⟨⟨_, rfl, by decide +kernel⟩, _, rfl⟩

theorem witness_KeySampleDebouncesTheKeys :
    loading (running .group) = false ∧ presses true (running .group).keys.kack = false ∧
      presses true (running .group).keys.krst = false ∧ presses true (running .group).keys.ksil = false := by
  decide +kernel

theorem witness_KeyClaimsOnOwnPoints :
    ∀ kack ∈ [true, false], ∀ krst ∈ [true, false], ∀ ksil ∈ [true, false],
      let s := keysAlmost (withPoint 4 .locking .lapsed 7 (running .group))
      loading s = false ∧ presses (down kack krst ksil false).kack s.keys.kack = kack ∧
        presses (down kack krst ksil false).krst s.keys.krst = krst ∧
        presses (down kack krst ksil false).ksil s.keys.ksil = ksil := by decide +kernel

/-- A queue of this many RESET-REQ, to stations 0 and up. -/
def queueOf (n : Nat) : RequestQueue :=
  { entries := (List.range n).map fun k =>
      { request := .resetReq (Fin.ofNat 16 k) [{ index := 0, version := 1 }], inFlight := k == 0, merged := false }
    refused := false }

theorem witness_KeyRequestsNameTheRows :
    (∀ kack ∈ [true, false], ∀ krst ∈ [true, false], ∀ ksil ∈ [true, false],
      let s := keysAlmost (running .group)
      loading s = false ∧ presses (down kack krst ksil true).kack s.keys.kack = kack ∧
        presses (down kack krst ksil true).krst s.keys.krst = krst ∧
        presses (down kack krst ksil true).ksil s.keys.ksil = ksil) ∧
    (let s := keysAlmost (withRow { state := .lapsed, version := 1 } .g1 true (running .group))
     isPresent s 2 = true ∧ pairsFor unacked s 2 = [{ index := 3, version := 1 }] ∧ s.queue.entries = []) ∧
    (let s := keysAlmost (withRow { state := .cleared, version := 1 } .g1 false (running .group))
     isPresent s 2 = true ∧ pairsFor isCleared s 2 = [{ index := 3, version := 1 }] ∧ s.queue.entries = []) ∧
    (let s := { keysAlmost (withRow { state := .lapsed, version := 1 } .g1 true (running .group)) with
                queue := queueOf 16 }
     (after (.keySample (down true false false false)) s).queue.refused = true) :=
  ⟨by decide +kernel, by decide +kernel, by decide +kernel, by decide +kernel⟩

theorem witness_KsilOffersASilence :
    (∀ kack ∈ [true, false], ∀ krst ∈ [true, false],
      presses (down kack krst true false).ksil (keysAlmost alone).keys.ksil = true ∧
        presses (down kack krst true false).kack (keysAlmost alone).keys.kack = kack ∧
        presses (down kack krst true false).krst (keysAlmost alone).keys.krst = krst) ∧
      loading (keysAlmost alone) = false ∧ localMode (keysAlmost alone) = true ∧
      localMode (keysAlmost (running .group)) = false := by decide +kernel

theorem witness_OfferMergesAppendsOrRefuses :
    (∃ e ∈ (queueOf 16).entries, requestKind e.request = requestKind (.resetReq 0 []) ∧
      targetOf e.request = targetOf (.resetReq 0 [])) ∧
    (∀ e ∈ (queueOf 15).entries, ¬(requestKind e.request = requestKind .silence ∧
      targetOf e.request = targetOf .silence)) ∧ (queueOf 15).entries.length < 16 ∧
    (∀ e ∈ (queueOf 16).entries, ¬(requestKind e.request = requestKind .silence ∧
      targetOf e.request = targetOf .silence)) ∧ 16 ≤ (queueOf 16).entries.length := by decide +kernel

/-- A frame of station 2. -/
def frame2 (seq : SeqNo) (b : Body) : Frame := { header := header2 seq, body := b }

/-- Every kind of body, in range. -/
def bodies : List Body :=
  [.presence 0, .hello 0xFFFF, .announce [entry 3], .ackReq 5 [{ index := 15, version := 0 }],
    .resetReq 5 ((List.finRange 16).map fun i => { index := i, version := 255 }), .silence, .refreshReq 2, .depart]

theorem witness_PeerFrameUpdatesThePeerEntry :
    (∀ b ∈ bodies, Hears (frame2 8 b) (receiving .frame (running .group))) ∧
      SoloCoherent (receiving .frame (running .group)) ∧ SoloCoherent (receiving .frame alone) ∧
      CountBelow (receiving .frame (running .group)).line ∧ (receiving .frame (running .group)).line.status = .busy ∧
      (receiving .frame (running .group)).line.decided = 8 ∧
      (∀ b ∈ bodies, (receiving .frame (running .group)).line.jamCount.val + (frameLength b - 4) < 2048) ∧
      lastCheckBit (frame2 8 .silence) ≠ lastCheckBit (frame2 7 .silence) := by decide +kernel

theorem witness_ReferenceFrameSetsTheWheel :
    Hears (frame2 8 .silence) (receiving .frame (running .group)) ∧
      (receiving .frame (running .group)).time.elapsed = some 682 ∧
      isPresent (after (.receiveSilence (header2 8)) (receiving .frame (running .group))) 2 = true ∧
      (2 : Fin 16) < ownNumber (running .group) ∧
      Hears { header := { header2 8 with sender := 9 }, body := .silence } (receiving .frame (running .group)) ∧
      ¬(9 : Fin 16) < ownNumber (running .group) ∧
      (receiving .frame (running .group)).time.tickCount ∉ (receiving .frame (running .group)).pins.frameEnds ∧
      (∀ k ∈ [0, 1],
        let s := endingAt k (receiving .frame (running .group))
        Hears (frame2 8 .silence) s ∧ s.time.elapsed = some 682 ∧ s.pending = [] ∧ inReset s = false ∧
          (s.time.tickCount ∈ s.pins.frameEnds ↔ k = 0) ∧ (s.time.tickCount + 1 ∈ s.pins.frameEnds ↔ k = 1)) := by
  decide +kernel

theorem witness_MaskAndHelloVacateRows :
    (receiving .frame (running .group)).line.receiver = .frame ∧
      (header2 8).sender ≠ ownNumber (receiving .frame (running .group)) := by decide +kernel

theorem witness_AnnounceWritesTheRows :
    Hears (frame2 8 (.announce [entry 3, entry 15])) (receiving .frame (running .listen)) := by decide +kernel

theorem witness_AnnounceActsOnFirstOutRegisters :
    Hears (frame2 8 (.announce ((List.finRange 16).map entry))) (receiving .frame (running .departed)) := by
  decide +kernel

theorem witness_RequestPairsAreClaims :
    (receiving .frame (running .group)).line.receiver = .frame ∧
      (header2 8).sender ≠ ownNumber (receiving .frame (running .group)) ∧
      pairsInRange [{ index := 4, version := 7 }] = true ∧ (5 : Fin 16) = ownNumber (running .group) ∧
      (6 : Fin 16) ≠ ownNumber (running .group) ∧
      (let s := receiving .frame (withPoint 4 .locking .raised 7 alone)
       localMode s = true ∧ localMode (after (.receiveAckReq (header2 8) 5 [{ index := 4, version := 7 }]) s) = false ∧
         (after (.receiveAckReq (header2 8) 5 [{ index := 4, version := 7 }]) s).points[4].state = .held) := by
  decide +kernel

theorem witness_ClaimsFollowTheirTables :
    ∀ st ∈ [PointState.quiet, .raised, .lapsed, .held, .cleared], ∀ m ∈ [PointMode.locking, .following],
      ((withPoint 4 m st 7 (running .group)).points[4]).enabled = true ∧
        (7 : Version) = ((withPoint 4 m st 7 (running .group)).points[4]).version ∧
        (8 : Version) ≠ ((withPoint 4 m st 7 (running .group)).points[4]).version := by decide +kernel

theorem witness_SilenceAndRefreshRequest :
    (receiving .frame alone).line.receiver = .frame ∧ (header2 8).sender ≠ ownNumber (receiving .frame alone) := by
  decide +kernel

theorem witness_DepartMarksThePeerDeparted :
    (receiving .frame (running .group)).line.receiver = .frame ∧
      (header2 8).sender ≠ ownNumber (receiving .frame (running .group)) ∧
      ((receiving .frame (running .group)).peers[2]).state ≠ .departed ∧ (running .group).member.own = .group ∧
      (running .listen).member.own ≠ .group ∧
      (let s := receiving .frame (after (.receiveDepart (header2 8)) (receiving .frame (running .group)))
       (s.peers[2]).state = .departed ∧ SoloCoherent s ∧ s.line.receiver = .frame) := by decide +kernel

theorem witness_OwnNumberFrameMakesDuplicate :
    (receiving .frame (running .listen)).line.receiver = .frame ∧
      (receiving .frame (running .listen)).member.own ≠ .loading ∧
      bodyInRange Body.silence = true ∧ ({ header2 8 with sender := 5 } : Header).sender = ownNumber (running .listen) ∧
      (receiving .frame (running .duplicate)).member.own = .duplicate ∧
      CountBelow (receiving .frame (running .listen)).line ∧
      (receiving .frame (running .listen)).line.decided = 8 ∧ (receiving .frame (running .listen)).line.status = .busy ∧
      (receiving .frame (running .listen)).line.jamCount.val + (345 - 4) < 2048 ∧
      ownFrameOnLrx (receiving .frame (running .listen)) = none ∧
      (let g : Frame := { header := { header2 8 with sender := 5 }, body := .silence }
       receiveHalves (halvesOn echoed.pins (halvesOfFrame echoed.pins)) = .valid g ∧
         g.header.sender = ownNumber echoed) := by decide +kernel

theorem witness_DamagedFrameSetsRotationZero :
    (receiving .frame (running .group)).line.receiver = .frame ∧ bodyInRange (.announce []) = false ∧
      CountBelow (receiving .frame (running .group)).line ∧ (receiving .frame (running .group)).pins.lrx = [] := by
  decide +kernel

theorem witness_LadderFollowsTheLineStatus :
    (let s := attempting .silence false none (running .group)
     s.line.status = .quiet ∧ s.line.receiver = .transmit) ∧
    (let s := receiving .wait (running .group)
     s.line.status = .busy ∧ s.line.receiver = .wait) ∧
    (let s := laddered false [] (running .group)
     s.access.ladder.isSome ∧ s.line.status = .quiet ∧ s.access.attempt = none) ∧
    (let s := { running .group with access := { AccessController.reset with unheardWait := true } }
     s.access.unheardWait = true ∧ s.line.status = .quiet ∧ s.access.attempt = none) := by decide +kernel

theorem witness_ReceiverFollowsTheStartMark :
    (running .group).line.receiver = .idle ∧
    (let s := { running .group with line := { (running .group).line with receiver := .mark } }
     s.line.receiver = .mark ∧ s.line.status = .quiet) ∧
    (let s := receiving .mark (running .group)
     s.line.receiver = .mark ∧ s.line.status = .busy ∧ CountBelow s.line ∧ s.line.decided = 1 ∧
       s.line.jamCount.val < 2044) := by decide +kernel

theorem witness_JamSetsLineFault :
    (receiving .wait (running .listen)).line.status = .busy ∧ (receiving .wait (running .listen)).line.receiver ≠ .off ∧
      (receiving .wait (running .listen)).line.jamCount ≠ 2048 ∧
      (receiving .wait (running .listen)).access.attempt = none ∧
      (let s := after .jamEvent (receiving .wait (running .listen))
       s.line.jamCount = 2048 ∧ s.pending = []) ∧
      Instr.startOfFrame ≠ .lineQuiet ∧ Instr.startOfFrame ≠ .endOfLoading ∧
      (after .startOfFrame
        { receiving .mark (running .group) with
          line := { (receiving .mark (running .group)).line with jamCount := 2048 } }).line.jamCount = 2048 := by
  decide +kernel

theorem witness_FrameRoundTrip : ∀ b ∈ bodies, bodyInRange b = true := by decide +kernel

theorem witness_NoTwoStationsShareASlot :
    (running .group).access.rotation = State.reset.access.rotation ∧ ownNumber (running .group) ≠ ownNumber State.reset := by
  decide +kernel

/-- Station 5 with this queue, HELLO and list, at the start of a ladder. -/
def readyTo (q : RequestQueue) (hello presence : Bool) : State :=
  let s := laddered false [] (running .group)
  { s with
    queue := q, member := { s.member with helloQueued := hello }
    access := { s.access with presencePending := presence } }

theorem witness_SlotBeginsTheChosenFrame :
    (∀ s ∈ [laddered true [3] (running .warning), laddered false [3] (running .group), readyTo (queueOf 2) false false,
        readyTo (queueOf 0) true true, readyTo (queueOf 0) false true],
      mayTransmit s = true ∧ (∃ l ∈ s.access.ladder, l.nextSlot ≤ slotNumber .routine s) ∧
        ∃ c ∈ choice s, FrameClass.routine = .routine ∨ kindClass (choiceKind c) = .urgent) ∧
    (∃ c ∈ choice (laddered true [3] (running .warning)), kindClass (choiceKind c) = .urgent) := by decide +kernel

theorem witness_SlotPassesWithoutAttempt :
    (∀ s ∈ [laddered false [3] (running .listen), readyTo (queueOf 0) false false, readyTo (queueOf 0) true false],
      (∃ l ∈ s.access.ladder, l.nextSlot ≤ slotNumber .urgent s) ∧
      (mayTransmit s = false ∨ choice s = none ∨ ∃ c ∈ choice s, kindClass (choiceKind c) = .routine)) ∧
    mayTransmit (laddered false [3] (running .listen)) = false ∧ choice (readyTo (queueOf 0) false false) = none := by
  decide +kernel

theorem witness_AnnounceIsBuiltFromTheList :
    mayTransmit (laddered false [3] (running .group)) = true ∧
      (laddered false [3] (running .group)).member.departPending = false ∧
      (laddered false [3] (running .group)).list ≠ [] ∧
      ∃ l ∈ (laddered false [3] (running .group)).access.ladder,
        l.nextSlot ≤ slotNumber .urgent (laddered false [3] (running .group)) := by decide +kernel

theorem witness_StartMarkEndSamplesThePhase :
    (∃ a ∈ wheeled.access.attempt, a.phaseSampled = false ∧ a.collision = none) ∧ CountBelow wheeled.line ∧
      (let s := after .lineBusy wheeled
       (∃ a ∈ s.access.attempt, a.phaseSampled = false ∧ a.collision = none) ∧ CountBelow s.line ∧
         s.line.status = .busy) ∧
      (running .group).access.attempt = none ∧
      (∃ a ∈ (after (.collision 8) wheeledBusy).access.attempt, a.phaseSampled = false ∧ a.collision = some 8) ∧
      (∃ a ∈ (after (.collision 7) wheeledBusy).access.attempt, a.collision ≠ none ∧ a.collision ≠ some 8) ∧
      (∃ a ∈ (after .ownStartMarkEnd wheeledBusy).access.attempt, a.phaseSampled = true) := by decide +kernel

theorem witness_CollisionEndsTheTransmission :
    (∃ a ∈ (attempting .silence true none (running .group)).access.attempt,
      a.collision = none ∧ (attempting .silence true none (running .group)).line.decided < 9 ∧
        104 = 2 * frameLength a.frame.body) ∧
    (∃ a ∈ (attempting .silence false none (running .group)).access.attempt,
      a.collision = none ∧ (attempting .silence false none (running .group)).line.decided < 1 ∧
        1 ≤ 2 * frameLength a.frame.body) ∧
    CountBelow (attempting .silence true none (running .group)).line ∧
    (∃ a ∈ (after .ownStartMarkEnd wheeledBusy).access.attempt, a.collision = none ∧ a.phaseSampled = true) ∧
    (after .ownStartMarkEnd wheeledBusy).line.decided = 8 ∧
    (∃ a ∈ wheeledBusy.access.attempt, a.collision = none ∧ a.phaseSampled = false) ∧ wheeledBusy.line.decided < 8 := by
  decide +kernel

theorem witness_SuccessStepsAreTaken :
    (∀ b ∈ bodies, ∃ a ∈ (attempting b true none (running .group)).access.attempt,
      a.collision = none ∧ a.phaseSampled = true ∧ a.heard = true) ∧
    (let s := attempting .silence true none
       { running .group with access := { AccessController.reset with lineFault := true } }
     s.access.attempt.isSome ∧ s.access.lineFault = true ∧ s.points[15].enabled = true ∧ CountBelow s.line ∧
       s.line.status = .busy ∧ ∀ b ∈ bodies, s.line.decided + 2 ≤ 2 * frameLength b) := by decide +kernel

/-- Point 4, listed, with a snapshot of (RAISED, 7), in an ANNOUNCE that carries it. -/
def announcing (collision : Option Nat) : State :=
  let s := withPoint 4 .locking .raised 7 (running .group)
  attempting (.announce [{ entry 4 with version := 7 }]) true collision
    { s with
      points := s.points.set 4 { s.points[4] with snapshot := some { state := .raised, version := 7 } }
      list := [4] }

theorem witness_SnapshotRule :
    (announcing none).access.attempt.isSome ∧
      (∃ a ∈ (announcing none).access.attempt, a.frame.body = .announce [{ entry 4 with version := 7 }] ∧
        a.collision = none ∧ a.phaseSampled = true ∧ a.heard = true) ∧
      ([{ entry 4 with version := 7 }].map (·.index)).Nodup ∧
      (∀ i : Fin 16, (announcing none).points[i].snapshot.isSome = true →
        i ∈ [{ entry 4 with version := 7 }].map (·.index)) ∧
      (let s := { announcing none with
                  access := { (announcing none).access with lineFault := true, failedCount := 16 } }
       s.access.attempt = (announcing none).access.attempt ∧ s.points = (announcing none).points ∧
         s.access.lineFault = true) ∧
      (let s := { announcing none with peers := State.reset.peers, member := alone.member }
       s.access.attempt = (announcing none).access.attempt ∧ s.points = (announcing none).points ∧
         localMode s = true ∧ localMode (after .attemptSuccess s) = true) := by decide +kernel

theorem witness_RequestOutcomes :
    (∀ b ∈ [Body.silence, .refreshReq 2, .ackReq 2 [], .resetReq 2 []], isRequest b = true) ∧
      (∃ a ∈ (attempting .silence true none (readyTo (queueOf 2) false false)).access.attempt,
        a.collision = none ∧ a.phaseSampled = true ∧ a.heard = true) ∧
      (∃ a ∈ (attempting .silence true (some 9) (readyTo (queueOf 2) false false)).access.attempt,
        a.collision ≠ none) ∧
      (∃ e ∈ (queueOf 2).entries.head?, e.inFlight = true ∧ e.merged = false) ∧
      (∀ e ∈ (queueOf 0).entries.head?, e.inFlight = false) := by decide +kernel

theorem witness_FailureStepsAreTaken :
    (∃ a ∈ (announcing (some 60)).access.attempt, a.collision = some 60 ∧ bodyKind a.frame.body ≠ .depart ∧
      (announcing (some 60)).line.decided ≤ 60 ∧ 60 < 2 * frameLength a.frame.body ∧ a.heard = true) ∧
      (∃ a ∈ (attempting (.presence 0) false (some 1) (running .group)).access.attempt,
        a.collision = some 1 ∧ bodyKind a.frame.body ≠ .depart ∧ a.heard = false) ∧
      (∃ a ∈ (attempting .silence true (some 104) (running .group)).access.attempt,
        a.collision = some 104 ∧ ¬104 < 2 * frameLength a.frame.body) ∧
      (∃ a ∈ (attempting .depart true (some 2) (running .warning)).access.attempt,
        a.collision = some 2 ∧ bodyKind a.frame.body = .depart) ∧
      CountBelow (announcing (some 60)).line := by decide +kernel

theorem witness_HelloAndDepartOutcomes :
    (∃ a ∈ (attempting (.hello 1) true none (running .group)).access.attempt,
      bodyKind a.frame.body = .hello ∧ a.collision = none ∧ a.phaseSampled = true ∧ a.heard = true) ∧
    (∃ a ∈ (attempting .depart true none (running .warning)).access.attempt,
      bodyKind a.frame.body = .depart ∧ a.collision = none ∧ a.phaseSampled = true ∧ a.heard = true) ∧
    (∃ a ∈ (attempting .depart true (some 2) (running .warning)).access.attempt,
      bodyKind a.frame.body = .depart ∧ a.collision ≠ none) ∧
    (∀ n ∈ [(0 : Fin 5), 2, 3], ∀ held ∈ [true, false],
      ∀ back ∈ [ReturnState.listen, .group], ∀ collision ∈ [none, some 9],
        let s := attempting .depart true collision (running .warning)
        let t := { s with
                   member := { s.member with departFailures := n, heldRecovery := held, returnState := some back } }
        (∃ a ∈ t.access.attempt, bodyKind a.frame.body = .depart ∧ a.collision = collision ∧ a.phaseSampled = true ∧
          a.heard = true) ∧
        t.member.heldRecovery = held ∧ t.startup.supplyWarning = false ∧ t.member.returnState = some back ∧
          (t.member.departFailures.val < 3 ∨ 3 ≤ t.member.departFailures.val)) := by decide +kernel

theorem witness_PresenceAndListenTimersExpire :
    (presenceAt 32768).access.presenceTimer = { running := true, ticks := presencePeriod (presenceAt 32768) } ∧
      (presenceAt 32767).access.presenceTimer ≠ { running := true, ticks := presencePeriod (presenceAt 32767) } ∧
      (listenAt 65536).member.own = .listen ∧
      (listenAt 65536).member.listenTimer = { running := true, ticks := listenWindow (listenAt 65536) } ∧
      (listenAt 65535).member.listenTimer ≠ { running := true, ticks := listenWindow (listenAt 65535) } := by
  decide +kernel

theorem witness_LostTimerMakesThePeerLost :
    ∀ n ∈ [98303, 98304],
      (2 : Fin 16) ≠ ownNumber (silentAt n) ∧ ((silentAt n).peers[2]).state = .present ∧ SoloCoherent (silentAt n) ∧
        ((silentAt n).peers[2]).silence = { running := true, ticks := n } ∧ lostLength (silentAt n) = 98304 ∧
        (receiving .frame (silentAt n)).line.receiver = .frame := by decide +kernel

theorem witness_SupplyWarningEntersWarning :
    ∀ m ∈ [Membership.listen, .group, .solo, .warning, .departed, .duplicate],
      inReset (running m) = false ∧ (running m).startup.supplyWarning = false ∧ (running m).member.own = m := by
  decide +kernel

theorem witness_SupplyRecoveryLeavesWarning :
    (∀ r ∈ [ReturnState.listen, .group], ∀ f ∈ [true, false],
      inReset (warned r f) = false ∧ (warned r f).startup.supplyWarning = true ∧ (warned r f).member.own = .warning ∧
        departInFlight (warned r f) = f ∧ (warned r f).member.returnState = some r) ∧
    ∀ m ∈ [Membership.departed, .duplicate],
      let s := { running m with startup := { (running m).startup with supplyWarning := true } }
      inReset s = false ∧ s.startup.supplyWarning = true ∧ s.member.own = m := by decide +kernel

theorem witness_CommonPeriodTakesTheCells :
    inReset paneled = false ∧ paneled.panel.common = some 2 ∧ loading paneled = false ∧ paneled.keys.testHeld = false ∧
      loading unread = true ∧ inReset unread = false := by decide +kernel

/-- TEST held, with this tone and wheel, and this period in progress. -/
def testing (tone : Config.HornTone) (w : Fin 32768) (p : Option TonePeriod) : State :=
  { running .group with
    keys := { KeyScanner.reset with testHeld := true }
    time := { TimeBase.reset with wheel := w }
    panel := { PanelDriver.reset with tone := tone, hornPeriod := p } }

/-- A period in progress that is to be cut. -/
def cut (p : TonePeriod) : State :=
  { testing .warble 0 (some p) with panel := { (testing .warble 0 (some p)).panel with hornCut := true } }

theorem witness_ToneBeginsAtItsOwnInstant :
    (∀ tone ∈ [Tone.high, .low],
      sounding (testing .warble 0 (some { tone := tone, elapsed := 16 })) = true ∧
        (testing .warble 0 (some { tone := tone, elapsed := 16 })).panel.hornCut = false ∧
        (testing .warble 0 (some { tone := tone, elapsed := 16 })).panel.hornPeriod.map (·.tone) = some tone ∧
        loading (cut { tone := tone, elapsed := 5 }) = false ∧ sounding (cut { tone := tone, elapsed := 5 }) = true ∧
        (cut { tone := tone, elapsed := 5 }).panel.hornCut = true) ∧
    loading (running .group) = false ∧ sounding (running .group) = false ∧
      sounding (testing .continuous 0 none) = true ∧ (4095 : Fin 32768).val / 2048 % 4 < 2 ∧
      2 ≤ (4096 : Fin 32768).val / 2048 % 4 ∧ sounding (testing .warble 4096 none) = true ∧
      (∃ p ∈ (testing .warble 4096 (some { tone := .low, elapsed := 0 })).panel.hornPeriod, p.tone = .low) := by
  decide +kernel

/-- A frame of the panel with common 2 selected, in the other polarity, and rows and entries of every kind that the clauses
of the statement name. -/
theorem witness_PanelShowsWhatStands :
    (2 : Fin 8) ∈ paneled.panel.common ∧ paneled.panel.lcdFrame % 2 = 0 ∧ State.reset.panel.common = none ∧
      (let s := { paneled with panel := { paneled.panel with lcdFrame := 1 } }
       (2 : Fin 8) ∈ s.panel.common ∧ s.panel.lcdFrame % 2 = 1) ∧
      (rowOf paneled 2 3).content = some { state := .held, version := 1 } ∧ (rowOf paneled 2 3).stale = false ∧
      (rowOf paneled 2 4).content = none ∧ (5 : Fin 16) = ownNumber paneled ∧ (2 : Fin 16) ≠ ownNumber paneled ∧
      paneled.peers[2].state = .present ∧ paneled.peers[2].flags = noFlags ∧ paneled.peers[3].state = .absent ∧
      (let s := withRow { state := .raised, version := 1 } .g1 true (running .group)
       hornDemand s = true ∧ silencedCondition s = false ∧ alertnActive s = true ∧ faultnActive s = false) ∧
      (let s := withRow { state := .lapsed, version := 1 } .g1 false (running .group)
       hornDemand s = false ∧ silencedCondition s = true) ∧
      (let s := after (.lostTimerExpiry 2) (silentAt 98304)
       s.peers[2].state = .lost ∧ faultnActive s = true) := by decide +kernel

theorem witness_ResetHoldsEveryBlock : ResetHeld State.reset ∧ inReset State.reset = true ∧
    ∃ t, step State.reset = .next t := ⟨by decide +kernel, by decide +kernel, _, rfl⟩

/-- A busy start of the station's ladder, with one point listed. -/
def climbing : State := laddered false [3] (running .group)

theorem witness_CarrierOnlyWherePermitted :
    (LoadingQuiescent climbing ∧ LineCoherent climbing ∧ MembershipCoherent climbing ∧ ReturnToListen climbing ∧
      AttemptPermitted climbing) ∧ ∃ t, step { climbing with pending := [.slotStart .urgent] } = .next t :=
  ⟨⟨by decide +kernel, by decide +kernel, by decide +kernel, by decide +kernel, by decide +kernel⟩, _, rfl⟩

/-- A REFRESH-REQ to station 2 in flight, at the end of its attempt. -/
def requesting : State :=
  { attempting (.refreshReq 2) true none (running .group) with
    queue := { entries := [{ request := .refreshReq 2, inFlight := true, merged := false }], refused := false }
    pending := [.attemptSuccess] }

theorem witness_QueueStaysBounded :
    (QueueBounded (queueOf 16) ∧
      ∃ t, step { running .group with queue := queueOf 16, pending := [.lineBusy] } = .next t) ∧
    (ResetHeld requesting ∧ LoadingQuiescent requesting ∧ LineCoherent requesting ∧ QueueCoherent requesting) ∧
      ∃ t, step requesting = .next t :=
  ⟨⟨by decide +kernel, _, rfl⟩, ⟨by decide +kernel, by decide +kernel, by decide +kernel, by decide +kernel⟩, _, rfl⟩

theorem witness_OwnPointsStayCoherent :
    (LoadingQuiescent climbing ∧ PointsCoherent climbing ∧ ListCoherent climbing) ∧ ∃ t, step climbing = .next t :=
  ⟨by decide +kernel, _, rfl⟩

theorem witness_SnapshotEqualsWhatTheFrameCarries :
    (LoadingQuiescent (announcing none) ∧ LineCoherent (announcing none) ∧ SnapshotsInFlight (announcing none)) ∧
      ∃ t, step (announcing none) = .next t :=
  ⟨⟨by decide +kernel, by decide +kernel, by decide +kernel⟩, _, rfl⟩

theorem witness_PresenceAndRowsAgree :
    (ResetHeld (running .group) ∧ LoadingQuiescent (running .group) ∧ PeersCoherent (running .group) ∧
      SoloCoherent (running .group) ∧ RowsCoherent (running .group)) ∧ ∃ t, step (running .group) = .next t :=
  ⟨by decide +kernel, _, rfl⟩

/-- Point 2.3 RAISED in group 1 and first-out. -/
def firstOut23 : State :=
  let s := withRow { state := .raised, version := 1 } .g1 true (running .group)
  { s with mirror := { s.mirror with firstOut := { FirstOut.empty with r1 := some { owner := 2, index := 3 } } } }

theorem witness_FirstOutHoldsARaisedPoint :
    (ResetHeld firstOut23 ∧ LoadingQuiescent firstOut23 ∧ PointsCoherent firstOut23 ∧ ListCoherent firstOut23 ∧
      PeersCoherent firstOut23 ∧ RowsCoherent firstOut23 ∧ FirstOutCoherent firstOut23) ∧
      ∃ t, step firstOut23 = .next t :=
  ⟨⟨by decide +kernel, by decide +kernel, by decide +kernel, by decide +kernel, by decide +kernel, by decide +kernel,
    by decide +kernel⟩, _, rfl⟩

theorem witness_AccessChangesOnlyAtItsEvents :
    (∀ cause, Instr.jamEvent ≠ .stationReset cause) ∧
      (∃ t, exec .jamEvent (receiving .wait (running .listen)) = .next t) ∧
      ∃ t, exec (.stationReset .supply) (receiving .wait (running .listen)) = .next t := ⟨by simp, ⟨_, rfl⟩, _, rfl⟩

theorem witness_ConfigurationIsFixed :
    (∀ cause, Instr.lineBusy ≠ .stationReset cause) ∧ Instr.lineBusy ≠ .endOfLoading ∧
      (∀ pins, Instr.lineBusy ≠ .releaseOfReset pins) ∧ ∃ t, exec .lineBusy (running .group) = .next t :=
  ⟨by simp, by decide, by simp, _, rfl⟩

end Sys2Proof.Tests
end

section
/-! PROOFS. The point sequence: what a move, a claim and a sample of the field inputs write into the own point records
(O11, O12, O24). -/

namespace Sys2Proof.Machine

open Sys2Proof.Safety

/-! ### A record after a move

`moved` is the word of the statements for it; a move touches neither the configuration nor the condition. -/

section Moved

variable (locally : Bool) (move : Option PointState) (r : OwnPoint)

@[simp] theorem moved_none : moved locally none r = r := rfl

@[simp] theorem moved_enabled : (moved locally move r).enabled = r.enabled := by cases move <;> rfl

@[simp] theorem moved_mode : (moved locally move r).mode = r.mode := by cases move <;> rfl

@[simp] theorem moved_condition : (moved locally move r).condition = r.condition := by cases move <;> rfl

@[simp] theorem moved_state : (moved locally move r).state = move.getD r.state := by cases move <;> rfl

/-- The version counts the transitions into RAISED and nothing else (R17). -/
@[simp] theorem moved_version :
    (moved locally move r).version = if move = some .raised then r.version + 1 else r.version := by
  cases move <;> simp [moved, versionMoved]

end Moved

/-- `applyMove` writes the moved record of its point and no other record (R11, R22). -/
theorem applyMove_points (i j : PointIndex) (move : Option PointState) (s : State) :
    (applyMove i move s).points[j] = if j = i then moved (localMode s) move s.points[j] else s.points[j] := by
  cases move with
  | none => simp [applyMove]
  | some new => exact stateChange_points i j new s

/-- A condition event writes the condition, and then the move of Tables 12 and 15 (R8, R12, R15). -/
theorem conditionEvent_points (i j : PointIndex) (event : Condition) (s : State) :
    (conditionEvent i event s).points[j] =
      if j = i then
        moved (localMode s) (conditionMove s.points[i].mode event s.points[i].state)
          { s.points[i] with condition := event }
      else s.points[j] := by
  have hm : ∀ pts, localMode { s with points := pts } = localMode s := fun _ => rfl
  simp only [conditionEvent, applyMove_points, get_set_fin, hm]
  by_cases e : j = i
  · subst e; simp only [if_true]
  · simp only [e, if_false]

/-! ### The tables of moves -/

/-- No condition event takes a point that is RAISED into RAISED again (Tables 12 and 15). -/
theorem conditionMove_raised_from (mode : PointMode) (event : Condition) (state : PointState)
    (h : conditionMove mode event state = some .raised) : state ≠ .raised := by
  rintro rfl
  cases mode <;> cases event <;> simp [conditionMove] at h

/-- A return to normal raises no point (Tables 12 and 15). -/
theorem conditionMove_normal_ne_raised (mode : PointMode) (state : PointState) :
    conditionMove mode .normal state ≠ some .raised := by
  cases mode <;> cases state <;> simp [conditionMove]

@[simp] theorem acknowledgeMove_raised (mode : PointMode) : acknowledgeMove mode .raised = some .held := by
  cases mode <;> rfl

/-- Where an acknowledge moves nothing (Tables 13 and 16). -/
theorem acknowledgeMove_eq_none {mode : PointMode} {state : PointState}
    (h : state = .quiet ∨ state = .held ∨ state = .cleared) : acknowledgeMove mode state = none := by
  rcases h with rfl | rfl | rfl <;> cases mode <;> rfl

/-- A reset claim has one move, CLEARED to QUIET in LOCKING mode (Tables 14 and 16). -/
theorem resetMove_eq (mode : PointMode) (state : PointState) :
    resetMove mode state = if mode = .locking ∧ state = .cleared then some .quiet else none := by
  cases mode <;> cases state <;> rfl

/-- No acknowledge raises a point (Tables 13 and 16). -/
theorem acknowledgeMove_ne_raised (mode : PointMode) (state : PointState) :
    acknowledgeMove mode state ≠ some .raised := by
  cases mode <;> cases state <;> simp [acknowledgeMove]

/-- No reset claim raises a point (Tables 14 and 16). -/
theorem resetMove_ne_raised (mode : PointMode) (state : PointState) : resetMove mode state ≠ some .raised := by
  rw [resetMove_eq]
  split <;> simp

/-! ### Claims that carry a version -/

section Claims

variable {moveOf : PointMode → PointState → Option PointState} {i : PointIndex} {v : Version} {s : State}

/-- A stale claim moves nothing (R18). -/
theorem versionedClaim_stale (hv : v ≠ s.points[i].version) : versionedClaim moveOf i v s = s :=
  if_neg fun h => hv h.2

/-- A claim of equal version on an enabled point is the move of its table. -/
theorem versionedClaim_current (he : s.points[i].enabled = true) (hv : v = s.points[i].version) :
    versionedClaim moveOf i v s = applyMove i (moveOf s.points[i].mode s.points[i].state) s :=
  if_pos ⟨he, hv⟩

/-- A claim for which the table has no move changes nothing, whatever its version (R11). -/
theorem versionedClaim_noMove (hm : moveOf s.points[i].mode s.points[i].state = none) :
    versionedClaim moveOf i v s = s := by
  rcases versionedClaim_cases moveOf i v s with h | ⟨new, -, -, hn, -⟩
  · exact h
  · exact absurd (hm.symm.trans hn) (by simp)

/-- The record after a claim of equal version on an enabled point. -/
theorem versionedClaim_points_current (he : s.points[i].enabled = true) (hv : v = s.points[i].version) :
    (versionedClaim moveOf i v s).points[i] =
      moved (localMode s) (moveOf s.points[i].mode s.points[i].state) s.points[i] := by
  rw [versionedClaim_current he hv, applyMove_points, if_pos rfl]

end Claims

/-- The own record after an acknowledge of equal version (R13, R16). -/
theorem acknowledge_points_current {i : PointIndex} {v : Version} {s : State} (he : s.points[i].enabled = true)
    (hv : v = s.points[i].version) :
    (acknowledge i v s).points[i] =
      moved (localMode s) (acknowledgeMove s.points[i].mode s.points[i].state) s.points[i] :=
  versionedClaim_points_current he hv

/-- The own record after a reset claim of equal version (R14, R16). -/
theorem resetClaim_points_current {i : PointIndex} {v : Version} {s : State} (he : s.points[i].enabled = true)
    (hv : v = s.points[i].version) :
    (resetClaim i v s).points[i] = moved (localMode s) (resetMove s.points[i].mode s.points[i].state) s.points[i] :=
  versionedClaim_points_current he hv

/-- A point that is QUIET, HELD or CLEARED takes no acknowledge (Tables 13 and 16). -/
theorem acknowledge_noMove (i : PointIndex) (v : Version) (s : State)
    (h : s.points[i].state = .quiet ∨ s.points[i].state = .held ∨ s.points[i].state = .cleared) :
    acknowledge i v s = s :=
  versionedClaim_noMove (acknowledgeMove_eq_none h)

/-- A point that is not CLEARED, or not in LOCKING mode, takes no reset claim (Tables 14 and 16). -/
theorem resetClaim_noMove (i : PointIndex) (v : Version) (s : State)
    (h : s.points[i].mode ≠ .locking ∨ s.points[i].state ≠ .cleared) : resetClaim i v s = s :=
  versionedClaim_noMove ((resetMove_eq _ _).trans (if_neg (not_and_or.mpr h)))

/-- An acknowledge of equal version on a LAPSED point in LOCKING mode clears it, and a reset claim of the same version then
makes it QUIET (Tables 13 and 14). -/
theorem resetClaim_after_acknowledge {i : PointIndex} {v : Version} {s : State} (he : s.points[i].enabled = true)
    (hv : v = s.points[i].version) (hmode : s.points[i].mode = .locking) (hst : s.points[i].state = .lapsed) :
    (acknowledge i v s).points[i].state = .cleared ∧ (resetClaim i v (acknowledge i v s)).points[i].state = .quiet := by
  have hack := acknowledge_points_current he hv
  rw [hmode, hst] at hack
  have hcleared : (acknowledge i v s).points[i].state = .cleared := by rw [hack, moved_state]; rfl
  refine ⟨hcleared, ?_⟩
  rw [resetClaim_points_current (by rw [hack, moved_enabled, he]) (by rw [hack, moved_version]; exact hv), moved_state,
    hcleared, hack, moved_mode, hmode]
  rfl

/-- Settles O24: a stale claim is ignored; a claim of equal version makes the move of its table, and none of those moves is
into RAISED, so the version stands. -/
theorem claimsFollowTheirTables : Obligations.ClaimsFollowTheirTables := by
  intro i v s he
  refine ⟨fun hv => ⟨versionedClaim_stale hv, versionedClaim_stale hv⟩, fun hv => ?_⟩
  have hack := acknowledge_points_current he hv
  have hreset := resetClaim_points_current he hv
  refine ⟨fun hraised => ⟨?_, ?_⟩, fun hmode hlapsed => ?_, fun hmode hcleared => ⟨?_, ?_⟩, fun hstill => ⟨?_, ?_⟩,
    fun hmode => ?_, ?_, ?_⟩
  · rw [hack, moved_state, hraised, acknowledgeMove_raised]; rfl
  · exact resetClaim_noMove i v s (.inr (by rw [hraised]; decide))
  · have hstays : resetClaim i v s = s := resetClaim_noMove i v s (.inr (by rw [hlapsed]; decide))
    obtain ⟨hcleared, hquiet⟩ := resetClaim_after_acknowledge he hv hmode hlapsed
    exact ⟨hcleared, hstays, hquiet, by rw [hstays]; exact hcleared⟩
  · rw [hreset, moved_state, hmode, hcleared]; rfl
  · exact acknowledge_noMove i v s (.inr (.inr hcleared))
  · exact acknowledge_noMove i v s (hstill.imp_right .inl)
  · exact resetClaim_noMove i v s (.inr (by rcases hstill with h | h <;> rw [h] <;> decide))
  · exact resetClaim_noMove i v s (.inl (by rw [hmode]; decide))
  · rw [hack, moved_version, if_neg (acknowledgeMove_ne_raised _ _), hv]
  · rw [hreset, moved_version, if_neg (resetMove_ne_raised _ _), hv]

/-! ### One sample of the field inputs -/

/-- The debounce takes a change exactly at the fourth disagreeing sample in a row (Table 9). -/
theorem debounce_taken (agrees : Bool) (count : Fin 4) : (debounce agrees count).2 = (!agrees && count == 3) := by
  cases agrees
  · by_cases h : count = 3 <;> simp [debounce, h]
  · rfl

/-- One sample of a field input: its own disagree count may move, and a change of condition that it takes is a condition
event (R4). -/
theorem samplePoint_cases (longest : DebounceClass) (levels : Mask) (s : State) (i : PointIndex) :
    ∃ count : Fin 4, samplePoint longest levels s i =
      if changesAt longest levels s i = true then
        conditionEvent i (seenAt levels s i) { s with disagree := s.disagree.set i count }
      else { s with disagree := s.disagree.set i count } := by
  by_cases hsampled : (s.points[i].enabled && sampledAt longest s.points[i].cls) = true
  · refine ⟨(debounce (seenAt levels s i == s.points[i].condition) s.disagree[i]).1, ?_⟩
    have htaken : (debounce (seenAt levels s i == s.points[i].condition) s.disagree[i]).2 =
        changesAt longest levels s i := by
      rw [debounce_taken, changesAt, hsampled, Bool.true_and]
      rfl
    rw [← htaken]
    exact if_pos hsampled
  · refine ⟨s.disagree[i], ?_⟩
    have hno : changesAt longest levels s i = false := by
      rw [changesAt, eq_false_of_ne_true hsampled, Bool.false_and, Bool.false_and]
    have hsame : s.disagree.set i s.disagree[i] = s.disagree := Vector.set_getElem_self ..
    rw [hno, hsame]
    exact if_neg hsampled

/-- The record of own point `i` after a sample of the field inputs: at a change of condition the new condition and the move
that goes with it, and else the record as it was. -/
def sampledRecord (longest : DebounceClass) (levels : Mask) (s : State) (i : PointIndex) : OwnPoint :=
  moved (localMode s) (moveAt longest levels s i)
    (if changesAt longest levels s i = true then { s.points[i] with condition := seenAt levels s i } else s.points[i])

theorem sampledRecord_of_change {longest : DebounceClass} {levels : Mask} {s : State} {i : PointIndex}
    (hc : changesAt longest levels s i = true) :
    sampledRecord longest levels s i =
      moved (localMode s) (conditionMove s.points[i].mode (seenAt levels s i) s.points[i].state)
        { s.points[i] with condition := seenAt levels s i } := by
  rw [sampledRecord, moveAt, if_pos hc, if_pos hc]

theorem sampledRecord_of_noChange {longest : DebounceClass} {levels : Mask} {s : State} {i : PointIndex}
    (hc : ¬changesAt longest levels s i = true) : sampledRecord longest levels s i = s.points[i] := by
  rw [sampledRecord, moveAt, if_neg hc, if_neg hc, moved_none]

/-- What a sample does to a record depends on the publication mode, the record and its disagree count only. -/
theorem sampledRecord_congr {longest : DebounceClass} {levels : Mask} {s t : State} {i : PointIndex}
    (hmode : localMode t = localMode s) (hpoint : t.points[i] = s.points[i]) (hcount : t.disagree[i] = s.disagree[i]) :
    sampledRecord longest levels t i = sampledRecord longest levels s i := by
  unfold sampledRecord moveAt changesAt seenAt
  rw [hmode, hpoint, hcount]

theorem samplePoint_localMode (longest : DebounceClass) (levels : Mask) (s : State) (i : PointIndex) :
    localMode (samplePoint longest levels s i) = localMode s := by
  simp [localMode]

/-- The sample of a point counts for no other point. -/
theorem samplePoint_disagree_of_ne (longest : DebounceClass) (levels : Mask) (s : State) {i j : PointIndex}
    (h : j ≠ i) : (samplePoint longest levels s i).disagree[j] = s.disagree[j] := by
  obtain ⟨count, hs⟩ := samplePoint_cases longest levels s i
  have hset : (samplePoint longest levels s i).disagree = s.disagree.set i count := by
    rw [hs]; split <;> simp
  rw [hset, get_set_fin, if_neg h]

/-- The sample of a point writes its own record only. -/
theorem samplePoint_points (longest : DebounceClass) (levels : Mask) (s : State) (i j : PointIndex) :
    (samplePoint longest levels s i).points[j] =
      if j = i then sampledRecord longest levels s j else s.points[j] := by
  obtain ⟨count, hs⟩ := samplePoint_cases longest levels s i
  rw [hs]
  by_cases hc : changesAt longest levels s i = true
  · rw [if_pos hc, conditionEvent_points]
    by_cases e : j = i
    · subst e
      rw [if_pos rfl, if_pos rfl, sampledRecord_of_change hc]
      rfl
    · rw [if_neg e, if_neg e]
  · rw [if_neg hc]
    by_cases e : j = i
    · subst e
      rw [if_pos rfl, sampledRecord_of_noChange hc]
    · rw [if_neg e]

/-! ### All field inputs -/

/-- A pass over different points samples each of them once, as the state stood before the pass. -/
theorem samplePoints_points (longest : DebounceClass) (levels : Mask) (l : List PointIndex) (hl : l.Nodup) (s : State)
    (j : PointIndex) :
    (l.foldl (samplePoint longest levels) s).points[j] =
      if j ∈ l then sampledRecord longest levels s j else s.points[j] := by
  induction l generalizing s with
  | nil => simp
  | cons i l ih =>
    obtain ⟨hi, hl⟩ := List.nodup_cons.mp hl
    rw [List.foldl_cons, ih hl, samplePoint_points]
    by_cases e : j = i
    · subst e
      rw [if_neg hi, if_pos rfl, if_pos List.mem_cons_self]
    · have hrest : sampledRecord longest levels (samplePoint longest levels s i) j = sampledRecord longest levels s j :=
        sampledRecord_congr (samplePoint_localMode ..) (by rw [samplePoint_points, if_neg e])
          (samplePoint_disagree_of_ne _ _ _ e)
      rw [hrest, if_neg e]
      simp only [List.mem_cons, e, false_or]

/-- FIELD_INPUT_SAMPLE outside LOADING: one pass over the sixteen points (R1 to R5). -/
theorem exec_fieldInputSample_running (longest : DebounceClass) (levels : Mask) (s : State) (hl : loading s = false) :
    exec (.fieldInputSample longest levels) s =
      .next (noteHorn ((List.finRange 16).foldl (samplePoint longest levels)
        { s with pins := { s.pins with fi := levels } })) :=
  if_neg (ne_true_of_eq_false hl)

/-- FIELD_INPUT_SAMPLE in LOADING: the scanner is stopped (R7). -/
theorem exec_fieldInputSample_loading (longest : DebounceClass) (levels : Mask) (s : State) (hl : loading s = true) :
    exec (.fieldInputSample longest levels) s = .next { s with pins := { s.pins with fi := levels } } :=
  if_pos hl

/-- FIELD_INPUT_SAMPLE outside LOADING leaves every own point with its sampled record. -/
theorem exec_fieldInputSample_points (longest : DebounceClass) (levels : Mask) (s : State) (hl : loading s = false) :
    ∃ t, exec (.fieldInputSample longest levels) s = .next t ∧
      ∀ i : Fin 16, t.points[i] = sampledRecord longest levels s i := by
  refine ⟨_, exec_fieldInputSample_running longest levels s hl, fun i => ?_⟩
  obtain ⟨-, -, hpoints, -⟩ := noteHorn_frame
    ((List.finRange 16).foldl (samplePoint longest levels) { s with pins := { s.pins with fi := levels } })
  rw [hpoints, samplePoints_points longest levels _ (List.nodup_finRange 16), if_pos (List.mem_finRange i)]
  exact sampledRecord_congr rfl rfl rfl

/-- Settles O11: the sampled record at a change of condition, read off Tables 12 and 15. -/
theorem conditionChangeMovesThePoint : Obligations.ConditionChangeMovesThePoint := by
  intro longest levels s i hl hc
  obtain ⟨t, ht, hpoints⟩ := exec_fieldInputSample_points longest levels s hl
  have hi := (hpoints i).trans (sampledRecord_of_change hc)
  refine ⟨t, ht, ?_, fun hmode hseen hst => ?_, fun hmode hseen => ⟨fun hst => ?_, fun hst => ?_, ?_⟩,
    fun hmode hseen hst => ?_, fun hmode hseen => ⟨fun hst => ?_, ?_⟩⟩ <;> rw [hi]
  · rw [moved_condition]
  · have hm : conditionMove .locking .abnormal s.points[i].state = some .raised := by
      rcases hst with h | h | h <;> rw [h] <;> rfl
    rw [moved_state, moved_version, hmode, hseen, hm]
    exact ⟨rfl, rfl⟩
  · rw [moved_state, hmode, hseen, hst]; rfl
  · rw [moved_state, hmode, hseen, hst]; rfl
  · rw [moved_version, hseen, if_neg (conditionMove_normal_ne_raised _ _)]
  · rw [moved_state, moved_version, hmode, hseen, hst]
    exact ⟨rfl, rfl⟩
  · have hm : conditionMove .following .normal s.points[i].state = some .quiet := by
      rcases hst with h | h <;> rw [h] <;> rfl
    rw [moved_state, hmode, hseen, hm]; rfl
  · rw [moved_version, hseen, if_neg (conditionMove_normal_ne_raised _ _)]

/-! ### State and version of the own points

Of all records, R17 speaks of the states and versions only. Most operations leave every one of them as it is, and say so
here once; what they leave of the rest of the state is said by their frame lemmas. -/

/-- State and version of every own point. -/
def ownPairs (points : Vector OwnPoint 16) : PointIndex → PointPair := fun i => pairOf points[i]

/-- Writing a record with the same state and version. -/
theorem ownPairs_set {points : Vector OwnPoint 16} {i : PointIndex} {r : OwnPoint} (h : pairOf r = pairOf points[i]) :
    ownPairs (points.set i r) = ownPairs points := by
  funext j
  simp only [ownPairs, get_set_fin]
  split
  · next e => rw [h, e]
  · rfl

/-- Writing every record, each with the same state and version. -/
theorem ownPairs_ofFn {points : Vector OwnPoint 16} {f : PointIndex → OwnPoint} (h : ∀ i, pairOf (f i) = pairOf points[i]) :
    ownPairs (Vector.ofFn f) = ownPairs points := by
  funext j
  simp only [ownPairs, get_ofFn_fin, h]

section OwnPairs

variable (s : State)

@[simp] theorem publish_ownPairs (i : PointIndex) (pair : PointPair) :
    ownPairs (publish i pair s).points = ownPairs s.points :=
  ownPairs_set rfl

@[simp] theorem catchUpPoint_ownPairs (i : PointIndex) : ownPairs (catchUpPoint s i).points = ownPairs s.points := by
  simp only [catchUpPoint]
  split <;> simp

@[simp] theorem catchUp_ownPairs : ownPairs (catchUp s).points = ownPairs s.points :=
  foldl_keeps (proj := fun s : State => ownPairs s.points) catchUpPoint_ownPairs _ _

@[simp] theorem catchUpFrom_ownPairs (before : State) : ownPairs (catchUpFrom before s).points = ownPairs s.points := by
  simp only [catchUpFrom]
  split <;> simp

/-! Membership and presence -/

@[simp] theorem supplyWarned_ownPairs : ownPairs (supplyWarned s).points = ownPairs s.points := by
  unfold supplyWarned
  split <;> simp [enterWarning]

@[simp] theorem enterListen_ownPairs : ownPairs (enterListen s).points = ownPairs s.points := by
  simp only [enterListen]
  split <;> simp

@[simp] theorem leaveWarning_ownPairs : ownPairs (leaveWarning s).points = ownPairs s.points := by
  unfold leaveWarning
  split <;> simp

@[simp] theorem supplyRecovered_ownPairs : ownPairs (supplyRecovered s).points = ownPairs s.points := by
  simp only [supplyRecovered]
  (repeat' split) <;> simp

@[simp] theorem enterDuplicate_ownPairs : ownPairs (enterDuplicate s).points = ownPairs s.points := by
  simp only [enterDuplicate]
  split <;> simp

@[simp] theorem followPresence_ownPairs : ownPairs (followPresence s).points = ownPairs s.points := by
  simp only [followPresence]
  split <;> simp

@[simp] theorem becamePresent_ownPairs (p : StationNo) : ownPairs (becamePresent p s).points = ownPairs s.points := by
  simp [becamePresent]

@[simp] theorem lostPresence_ownPairs (p : StationNo) : ownPairs (lostPresence p s).points = ownPairs s.points := by
  simp [lostPresence]

@[simp] theorem peerHeard_ownPairs (h : Header) (kind : FrameKind) :
    ownPairs (peerHeard h kind s).points = ownPairs s.points := by
  simp only [peerHeard]
  (repeat' split) <;> simp

/-! The attempt -/

@[simp] theorem takeSlot_ownPairs (cls : FrameClass) : ownPairs (takeSlot cls s).points = ownPairs s.points := by
  have hbuild : ∀ c, ownPairs (beginAttempt c s).points = ownPairs s.points := by
    intro c
    cases c with
    | announce => exact ownPairs_ofFn fun i => by split <;> rfl
    | depart | request _ | hello | presence => rfl
  unfold takeSlot
  (repeat' split) <;> simp [hbuild]

@[simp] theorem settlePoint_ownPairs (i : PointIndex) : ownPairs (settlePoint s i).points = ownPairs s.points := by
  unfold settlePoint
  split
  · rfl
  · next pair _ =>
    have hdrop : pairOf { (publish i pair s).points[i] with snapshot := none } = pairOf (publish i pair s).points[i] := rfl
    exact (ownPairs_set hdrop).trans (publish_ownPairs s i pair)

@[simp] theorem reportSuccess_ownPairs (b : Body) : ownPairs (reportSuccess b s).points = ownPairs s.points := by
  cases b with
  | announce es => exact foldl_keeps (proj := fun s : State => ownPairs s.points) settlePoint_ownPairs _ _
  | depart => simp only [reportSuccess, departSucceeded]; split <;> simp
  | presence _ | hello _ | ackReq _ _ | resetReq _ _ | refreshReq _ | silence => simp [reportSuccess]

@[simp] theorem catchUpAfter_ownPairs (b : Body) : ownPairs (catchUpAfter b s).points = ownPairs s.points := by
  simp only [catchUpAfter]
  split <;> simp

@[simp] theorem departFailed_ownPairs : ownPairs (departFailed s).points = ownPairs s.points := by
  simp only [departFailed]
  (repeat' split) <;> simp

@[simp] theorem reportFailure_ownPairs (b : Body) : ownPairs (reportFailure b s).points = ownPairs s.points := by
  cases b with
  | announce es => exact ownPairs_ofFn fun _ => rfl
  | depart => exact departFailed_ownPairs s
  | presence _ | hello _ | ackReq _ _ | resetReq _ _ | refreshReq _ | silence => rfl

@[simp] theorem catchUpFailed_ownPairs (before : State) (b : Body) :
    ownPairs (catchUpFailed before b s).points = ownPairs s.points := by
  simp only [catchUpFailed]
  split <;> simp

end OwnPairs

/-! ### Changes that raise no point -/

/-- Every version stands, and no own point comes into RAISED. -/
def NoRaise (before after : PointIndex → PointPair) : Prop :=
  ∀ i, (after i).version = (before i).version ∧ ((after i).state = .raised → (before i).state = .raised)

theorem NoRaise.refl (p : PointIndex → PointPair) : NoRaise p p := fun _ => ⟨rfl, id⟩

theorem NoRaise.trans {p q r : PointIndex → PointPair} (h : NoRaise p q) (h' : NoRaise q r) : NoRaise p r :=
  fun i => ⟨(h' i).1.trans (h i).1, (h i).2 ∘ (h' i).2⟩

theorem NoRaise.of_eq {p q : PointIndex → PointPair} (h : q = p) : NoRaise p q := h ▸ .refl p

/-- A run of operations, none of which raises a point. -/
theorem foldl_noRaise {β : Type} {f : State → β → State}
    (h : ∀ s b, NoRaise (ownPairs s.points) (ownPairs (f s b).points)) (l : List β) (s : State) :
    NoRaise (ownPairs s.points) (ownPairs (l.foldl f s).points) := by
  induction l generalizing s with
  | nil => exact .refl _
  | cons b l ih => exact (h s b).trans (ih _)

/-- A state change to another state than RAISED (R17). -/
theorem stateChange_noRaise (i : PointIndex) {new : PointState} (hnew : new ≠ .raised) (s : State) :
    NoRaise (ownPairs s.points) (ownPairs (stateChange i new s).points) := by
  intro j
  simp only [ownPairs, stateChange_points]
  split
  · exact ⟨if_neg hnew, fun h => absurd h hnew⟩
  · exact ⟨rfl, id⟩

/-- A claim whose table has no move to RAISED. -/
theorem versionedClaim_noRaise {moveOf : PointMode → PointState → Option PointState}
    (hmove : ∀ mode state, moveOf mode state ≠ some .raised) (i : PointIndex) (v : Version) (s : State) :
    NoRaise (ownPairs s.points) (ownPairs (versionedClaim moveOf i v s).points) := by
  rcases versionedClaim_cases moveOf i v s with h | ⟨new, -, -, hnew, h⟩
  · rw [h]; exact .refl _
  · rw [h]; exact stateChange_noRaise i (fun e => hmove _ _ (e ▸ hnew)) s

theorem acknowledge_noRaise (i : PointIndex) (v : Version) (s : State) :
    NoRaise (ownPairs s.points) (ownPairs (acknowledge i v s).points) :=
  versionedClaim_noRaise acknowledgeMove_ne_raised i v s

theorem resetClaim_noRaise (i : PointIndex) (v : Version) (s : State) :
    NoRaise (ownPairs s.points) (ownPairs (resetClaim i v s).points) :=
  versionedClaim_noRaise resetMove_ne_raised i v s

section Claimed

variable {claim : PointIndex → Version → State → State}
  (hclaim : ∀ i v s, NoRaise (ownPairs s.points) (ownPairs (claim i v s).points))

include hclaim

/-- The claims of a received request (R130). -/
theorem takePairs_noRaise (pairs : List ReqPair) (s : State) :
    NoRaise (ownPairs s.points) (ownPairs (takePairs claim pairs s).points) := by
  unfold takePairs
  exact foldl_noRaise (fun s p => hclaim p.index p.version s) pairs s

/-- The claims of a key (R19). -/
theorem localClaims_noRaise (test : PointState → Bool) (l : List PointIndex) (s : State) :
    NoRaise (ownPairs s.points) (ownPairs (l.foldl (localClaim claim test) s).points) := by
  refine foldl_noRaise (fun s i => ?_) l s
  unfold localClaim
  split
  · exact hclaim _ _ _
  · exact .refl _

end Claimed

/-- A press of KACK raises no point (R117, R118). -/
theorem pressKack_noRaise (s : State) : NoRaise (ownPairs s.points) (ownPairs (pressKack s).points) := by
  simp only [pressKack]
  exact localClaims_noRaise acknowledge_noRaise unacked (List.finRange 16) s

/-- A press of KRST raises no point (R119). -/
theorem pressKrst_noRaise (s : State) : NoRaise (ownPairs s.points) (ownPairs (pressKrst s).points) := by
  simp only [pressKrst]
  exact localClaims_noRaise resetClaim_noRaise isCleared (List.finRange 16) s

theorem sampleKack_noRaise (level : Bool) (s : State) :
    NoRaise (ownPairs s.points) (ownPairs (sampleKack level s).points) := by
  simp only [sampleKack]
  split
  · exact pressKack_noRaise { s with keys := { s.keys with kack := (sampleKey level s.keys.kack).1 } }
  · exact .refl _

theorem sampleKrst_noRaise (level : Bool) (s : State) :
    NoRaise (ownPairs s.points) (ownPairs (sampleKrst level s).points) := by
  simp only [sampleKrst]
  split
  · exact pressKrst_noRaise { s with keys := { s.keys with krst := (sampleKey level s.keys.krst).1 } }
  · exact .refl _

/-- The sample of KSIL touches no record (R120). -/
theorem sampleKsil_points (level : Bool) (s : State) : (sampleKsil level s).points = s.points := by
  simp only [sampleKsil]
  split <;> simp

/-- The sample of KTST touches no record (R121). -/
theorem sampleKtst_points (level : Bool) (s : State) : (sampleKtst level s).points = s.points := rfl

/-- KEY_SAMPLE raises no point. -/
theorem exec_keySample_noRaise {levels : KeyPins} {s t : State} (h : exec (.keySample levels) s = .next t) :
    NoRaise (ownPairs s.points) (ownPairs t.points) := by
  simp only [exec, execKeySample] at h
  split at h <;> cases h
  · exact .refl _
  · simp only [noteHorn_frame, sampleKtst_points, sampleKsil_points]
    exact (sampleKack_noRaise levels.kack { s with pins := { s.pins with keys := levels } }).trans (sampleKrst_noRaise _ _)

/-- What a received frame does beyond the presence entry raises no point: its pairs are claims (R130). -/
theorem takeBody_noRaise (sender : StationNo) (b : Body) (s : State) :
    NoRaise (ownPairs s.points) (ownPairs (takeBody sender b s).points) := by
  cases b with
  | ackReq target pairs =>
    simp only [takeBody]
    split
    · exact takePairs_noRaise acknowledge_noRaise pairs s
    · exact .refl _
  | resetReq target pairs =>
    simp only [takeBody]
    split
    · exact takePairs_noRaise resetClaim_noRaise pairs s
    · exact .refl _
  | refreshReq target => exact .of_eq (by simp only [takeBody]; split <;> simp)
  | presence _ | hello _ | announce _ | silence | depart => exact .of_eq (by simp [takeBody])

/-- A frame of a peer, or one that bears the own number, raises no point. -/
theorem takeFrame_noRaise (f : Frame) (s : State) : NoRaise (ownPairs s.points) (ownPairs (takeFrame f s).points) := by
  unfold takeFrame
  split
  · exact .refl _
  · split
    · exact .of_eq (by simp)
    · split
      · exact .of_eq (by simp [takeOwnNumberFrame])
      · simp only [takePeerFrame, noteHorn_frame, adopt_frame]
        exact (NoRaise.of_eq (by simp)).trans (takeBody_noRaise _ _ _)

/-! ### The version rule of R17 -/

/-- The version of R17: one more, modulo 256, at a transition into RAISED, and else the same. -/
def VersionStep (before after : PointPair) : Prop :=
  after.version =
    if after.state = .raised ∧ before.state ≠ .raised then before.version + 1 else before.version

theorem NoRaise.versionStep {p q : PointIndex → PointPair} (h : NoRaise p q) (i : PointIndex) :
    VersionStep (p i) (q i) :=
  (h i).1.trans (if_neg fun hr => hr.2 ((h i).2 hr.1)).symm

/-- A move keeps R17, if it is not one from RAISED to RAISED. -/
theorem moved_versionStep (locally : Bool) {move : Option PointState} {r : OwnPoint}
    (h : move = some .raised → r.state ≠ .raised) : VersionStep (pairOf r) (pairOf (moved locally move r)) := by
  by_cases hm : move = some .raised
  · have hr := h hm
    subst hm
    exact (if_pos ⟨rfl, hr⟩).symm
  · have hq : ¬((moved locally move r).state = .raised ∧ r.state ≠ .raised) := by
      rintro ⟨hstate, hr⟩
      rw [moved_state] at hstate
      cases move with
      | none => exact hr hstate
      | some new => exact hm (congrArg some hstate)
    exact ((moved_version locally move r).trans (if_neg hm)).trans (if_neg hq).symm

/-- The sample of a field input keeps R17. -/
theorem sampledRecord_versionStep (longest : DebounceClass) (levels : Mask) (s : State) (i : PointIndex) :
    VersionStep (pairOf s.points[i]) (pairOf (sampledRecord longest levels s i)) := by
  by_cases hc : changesAt longest levels s i = true
  · rw [sampledRecord_of_change hc]
    exact moved_versionStep _ (r := { s.points[i] with condition := seenAt levels s i })
      (conditionMove_raised_from s.points[i].mode (seenAt levels s i) s.points[i].state)
  · rw [sampledRecord_of_noChange hc]
    exact (NoRaise.refl (ownPairs s.points)).versionStep i

theorem exec_fieldInputSample_versionStep {longest : DebounceClass} {levels : Mask} {s t : State}
    (h : exec (.fieldInputSample longest levels) s = .next t) (i : PointIndex) :
    VersionStep (ownPairs s.points i) (ownPairs t.points i) := by
  cases hl : loading s with
  | true =>
    rw [exec_fieldInputSample_loading longest levels s hl] at h
    cases h
    exact (NoRaise.refl _).versionStep i
  | false =>
    obtain ⟨t', ht', hpoints⟩ := exec_fieldInputSample_points longest levels s hl
    rw [ht'] at h
    cases h
    rw [ownPairs, ownPairs, hpoints]
    exact sampledRecord_versionStep longest levels s i

/-- A station reset sets every version to 0 (R17, R158). -/
theorem exec_stationReset_version {cause : ResetCause} {s t : State} (h : exec (.stationReset cause) s = .next t)
    (i : Fin 16) : t.points[i].version = 0 := by
  simp only [exec, execStationReset] at h
  cases h
  simp [OwnPoint.fresh]

/-- The commands that reset the own points, sample their inputs, or may carry a claim on them: the only ones that can write a
state or a version. -/
def claimsOrSamples : Instr → Bool
  | .stationReset _ => true
  | .fieldInputSample _ _ => true
  | .keySample _ => true
  | .receivePresence _ _ => true
  | .receiveHello _ _ => true
  | .receiveAnnounce _ _ => true
  | .receiveAckReq _ _ _ => true
  | .receiveResetReq _ _ _ => true
  | .receiveRefreshReq _ _ => true
  | .receiveSilence _ => true
  | .receiveDepart _ => true
  | _ => false

/-- All other commands leave every state and version as it is. -/
theorem exec_ownPairs {c : Instr} {s t : State} (h : exec c s = .next t)
    (hc : claimsOrSamples c = false) : ownPairs t.points = ownPairs s.points := by
  cases c with
  | stationReset | fieldInputSample | keySample | receivePresence | receiveHello | receiveAnnounce | receiveAckReq
  | receiveResetReq | receiveRefreshReq | receiveSilence | receiveDepart => simp [claimsOrSamples] at hc
  | endOfLoading =>
    simp only [exec, execEndOfLoading] at h
    split at h <;> cases h
    · rw [enterListen_ownPairs]
      exact ownPairs_ofFn fun _ => rfl
    · rfl
  | releaseOfReset | lineBusy | lineQuiet | ladderRepeat | ladderStartAfterUnheardAttempt | ownStartMarkEnd | collision
  | presenceTimerExpiry | startOfFrame | firstHighSample | cdiSample | commonPeriodStart | toneInstant =>
    simp only [exec, execReleaseOfReset, execLineBusy, execLineQuiet, execLadderRepeat,
      execLadderStartAfterUnheardAttempt, execOwnStartMarkEnd, execCollision, execPresenceTimerExpiry, execStartOfFrame,
      execFirstHighSample, execCdiSample, execCommonPeriodStart, execToneInstant] at h
    (repeat' split at h) <;> cases h <;> rfl
  | damagedFrame | spike | unframedCarrier | slotStart | attemptSuccess | attemptFailure | jamEvent | listenWindowEnd
  | lostTimerExpiry | supplyWarningEvent | supplyRecoveryEvent | receiveOwnNumberFrame =>
    simp only [exec, execDamagedFrame, execSpike, execUnframedCarrier, execSlotStart, execAttemptSuccess,
      execAttemptFailure, execJamEvent, execListenWindowEnd, execLostTimerExpiry, execSupplyWarningEvent,
      execSupplyRecoveryEvent, execReceiveOwnNumberFrame] at h
    (repeat' split at h) <;> cases h <;> simp [takeOwnNumberFrame]

/-- Every command but a station reset keeps R17; a sample of the field inputs is the only one that raises a point. -/
theorem exec_versionStep {c : Instr} {s t : State} (hc : ∀ cause, c ≠ .stationReset cause) (h : exec c s = .next t)
    (i : PointIndex) : VersionStep (ownPairs s.points i) (ownPairs t.points i) := by
  cases c with
  | stationReset cause => exact absurd rfl (hc cause)
  | fieldInputSample longest levels => exact exec_fieldInputSample_versionStep h i
  | keySample levels => exact (exec_keySample_noRaise h).versionStep i
  | receivePresence | receiveHello | receiveAnnounce | receiveAckReq | receiveResetReq | receiveRefreshReq
  | receiveSilence | receiveDepart =>
    cases h
    exact (takeFrame_noRaise _ s).versionStep i
  | _ => exact (NoRaise.of_eq (exec_ownPairs h rfl)).versionStep i

/-- Settles O12: the rule of R17 for every command but a station reset, and the reset version. -/
theorem versionChangesOnlyAtARaise : Obligations.VersionChangesOnlyAtARaise := by
  intro c s t i h
  refine ⟨fun hc => exec_versionStep hc h i, ?_⟩
  rintro ⟨cause, rfl⟩
  exact exec_stationReset_version h i

end Sys2Proof.Machine
end

section
/-! PROOFS. The ladder slots: the rank, the two slots of a station, and why no two stations share one (O33). -/

namespace Sys2Proof.Machine

/-! ### The rank and the two slots (R41) -/

section Slots

variable (cls : FrameClass) (s : State)

@[simp] theorem slotNumber_urgent : slotNumber .urgent s = (rank s).val := rfl

@[simp] theorem slotNumber_routine : slotNumber .routine s = 16 + (rank s).val := rfl

/-- Either slot of a station tells its rank: the two halves of the ladder are sixteen slots apart. -/
theorem slotNumber_mod : slotNumber cls s % 16 = (rank s).val := by
  cases cls with
  | urgent => rw [slotNumber_urgent, Nat.mod_eq_of_lt (rank s).isLt]
  | routine => rw [slotNumber_routine, Nat.add_mod_left, Nat.mod_eq_of_lt (rank s).isLt]

/-- The rotation and the rank give back the station number. -/
theorem rank_add_rotation : rank s + s.access.rotation = ownNumber s := sub_add_cancel _ _

end Slots

/-- For one value of the rotation, the map from station number to rank is one to one (R41). -/
theorem ownNumber_eq_of_rank_eq {s t : State} (hrotation : s.access.rotation = t.access.rotation)
    (hrank : rank s = rank t) : ownNumber s = ownNumber t := by
  rw [← rank_add_rotation s, ← rank_add_rotation t, hrank, hrotation]

/-- Stations of equal rotation that own one slot, of whichever classes, have the same number (R41). -/
theorem ownNumber_eq_of_slotNumber_eq {s t : State} {c d : FrameClass}
    (hrotation : s.access.rotation = t.access.rotation) (hslot : slotNumber c s = slotNumber d t) :
    ownNumber s = ownNumber t := by
  have hrank : (rank s).val = (rank t).val := by rw [← slotNumber_mod c s, ← slotNumber_mod d t, hslot]
  exact ownNumber_eq_of_rank_eq hrotation (Fin.ext hrank)

/-- Settles O33: a slot and the rotation determine the station number that owns the slot. -/
theorem noTwoStationsShareASlot : Obligations.NoTwoStationsShareASlot := by
  intro s t c d hrotation
  rw [slotNumber_routine, slotNumber_urgent]
  refine ⟨mt (ownNumber_eq_of_slotNumber_eq hrotation), (rank s).isLt, Nat.add_comm 16 _, ?_⟩
  exact congrArg Fin.val (rank_add_rotation s)

end Sys2Proof.Machine
end

section
/-! PROOFS. What a received ANNOUNCE does to the Mirror Table: the presence hand-ons that come before its entries, what one
entry does to the rows and to the first-out registers, and the entries of a whole frame (O21, O22). -/

namespace Sys2Proof.Machine

open Sys2Proof.Safety

/-! ### The presence hand-ons of a peer that is heard (Tables 45 and 46) -/

/-- No catch-up where local publication mode does not begin (R94). -/
theorem catchUpFrom_of_noBegin {before s : State} (h : localMode s = true → localMode before = true) :
    catchUpFrom before s = s := by
  refine if_neg fun hbegin => ?_
  obtain ⟨hbefore, hs⟩ := Bool.and_eq_true_iff.mp hbegin
  rw [h hs] at hbefore
  exact absurd hbefore (by decide)

/-- With a peer PRESENT the presence rule gives GROUP (R65). Local publication mode cannot begin at that, so no catch-up
goes with it. -/
theorem followPresence_of_anyPresent {s : State} (h : anyPresent s = true) :
    followPresence s =
      if s.member.own = .group ∨ s.member.own = .solo then { s with member := { s.member with own := .group } }
      else s := by
  have hrule : presenceRule s = .group := if_pos h
  simp only [followPresence, hrule]
  split
  · next hown =>
    refine catchUpFrom_of_noBegin fun hlocal => ?_
    have hfault : s.access.lineFault = true := hlocal
    rcases hown with hgroup | hsolo
    · simp [localMode, hgroup, hfault]
    · simp [localMode, hsolo]
  · rfl

/-- Some peer is PRESENT if this one is (R65, R72). -/
theorem anyPresent_of_peer {s : State} {p : StationNo} (hp : p ≠ ownNumber s) (h : s.peers[p].state = .present) :
    anyPresent s = true :=
  List.any_eq_true.mpr ⟨p, List.mem_finRange p, by simpa [isPresent, hp] using h⟩

/-- The Mirror Table once peer `p` is heard: the stale marks of a peer that was not PRESENT go (R107). -/
def mirrorHeard (p : StationNo) (s : State) : MirrorTable :=
  if s.peers[p].state = .present then s.mirror else clearStale p s.mirror

section Heard

variable (p : StationNo) (s : State)

theorem mirrorHeard_remote (q : StationNo) (i : PointIndex) :
    (mirrorHeard p s).remote[q][i] =
      if q = p then returned (s.peers[p].state == .present) s.mirror.remote[p][i] else s.mirror.remote[q][i] := by
  unfold mirrorHeard
  by_cases hpresent : s.peers[p].state = .present
  · rw [if_pos hpresent, hpresent]
    split
    · next hq => subst hq; rfl
    · rfl
  · rw [if_neg hpresent, clearStale, setRows_get, beq_eq_false_iff_ne.mpr hpresent]
    rfl

@[simp] theorem mirrorHeard_ownHorn : (mirrorHeard p s).ownHorn = s.mirror.ownHorn := by
  unfold mirrorHeard
  split <;> rfl

@[simp] theorem mirrorHeard_firstOut : (mirrorHeard p s).firstOut = s.mirror.firstOut := by
  unfold mirrorHeard
  split <;> rfl

end Heard

/-- A peer that becomes PRESENT hands on to its stale marks only; no own point is published (Table 46). -/
theorem becamePresent_points_mirror {p : StationNo} {s : State} (hp : p ≠ ownNumber s)
    (h : s.peers[p].state = .present) :
    (becamePresent p s).points = s.points ∧ (becamePresent p s).mirror = clearStale p s.mirror := by
  have hany : anyPresent { s with mirror := clearStale p s.mirror } = true := anyPresent_of_peer hp h
  rw [becamePresent, followPresence_of_anyPresent hany]
  split <;> exact ⟨rfl, rfl⟩

/-- A frame of a peer other than a DEPART reaches no own record through the Presence Table, and of the Mirror Table the
stale marks of its sender (R73, R107). -/
theorem peerHeard_points_mirror {h : Header} {kind : FrameKind} {s : State} (hkind : kind ≠ .depart)
    (hp : h.sender ≠ ownNumber s) :
    (peerHeard h kind s).points = s.points ∧ (peerHeard h kind s).mirror = mirrorHeard h.sender s := by
  have hstate : (entryAfter kind h).state = .present := if_neg hkind
  simp only [peerHeard, hstate, if_true, mirrorHeard]
  by_cases hpresent : s.peers[h.sender].state = .present
  · simp only [hpresent, if_true]
    split <;> exact ⟨rfl, rfl⟩
  · have hnow := becamePresent_points_mirror (s := { s with peers := s.peers.set h.sender (entryAfter kind h) }) hp
      (by rw [get_set_fin, if_pos rfl, hstate])
    simp only [hpresent, if_false]
    split <;> exact hnow

/-! ### One entry (R99 to R101) -/

section Entry

variable (p : StationNo) (m : MirrorTable) (e : AnnounceEntry)

/-- At a state RAISED or LAPSED the new-raise test is the comparison of versions alone (R98). -/
theorem isNewRaise_of_unacked (reference : Option Version) {pair : PointPair} (h : unacked pair.state = true) :
    isNewRaise reference pair = (reference != some pair.version) := by
  have hstate : (pair.state != .quiet) = true := bne_iff_ne.mpr fun hquiet => by rw [hquiet] at h; cases h
  rw [isNewRaise, hstate, Bool.and_true]

/-- The horn flag that an entry leaves is the one of Table 55. -/
theorem hornAfterEntry_eq (reference : Option Version) (old : Bool) :
    hornAfterEntry (isNewRaise reference { state := e.state, version := e.version }) e.state old =
      (unacked e.state && (old || reference != some e.version)) := by
  unfold hornAfterEntry
  split
  · next hunacked => rw [isNewRaise_of_unacked reference hunacked, hunacked, Bool.true_and, Bool.or_comm]
  · next hacked => rw [eq_false_of_ne_true hacked, Bool.false_and]

/-- An entry writes its own row and no other (R99, R100). -/
theorem takeEntry_remote (q : StationNo) (i : PointIndex) :
    (takeEntry p m e).remote[q][i] =
      if q = p ∧ i = e.index then rowAfterEntry m.remote[p][e.index] e else m.remote[q][i] := by
  simp only [takeEntry, setRows_get, hornAfterEntry_eq]
  by_cases hq : q = p
  · subst hq
    by_cases hi : i = e.index
    · subst hi; simp only [if_true, and_self, rowAfterEntry]
    · simp only [hi, if_true, if_false, and_false]
  · simp only [hq, if_false, false_and]

@[simp] theorem takeEntry_ownHorn : (takeEntry p m e).ownHorn = m.ownHorn := rfl

/-- The three steps of R101, seen from the register of one group: it empties at a change away from the group or at QUIET,
and, if it is empty, takes the point at a new raise or a mark. -/
theorem firstOutAfterEntry_get (q : PointRef) (row : MirrorRow) (g : FirstOutGroup) (f : FirstOut) :
    (firstOutAfterEntry q row.group
        (isNewRaise (row.content.map (·.version)) { state := e.state, version := e.version }) e f).get g =
      registerAfterEntry q row g (f.get g) e := by
  have hchange : (if row.group = e.group then f else f.dropAt row.group q).get g =
      if g = row.group ∧ g ≠ e.group ∧ f.get g = some q then none else f.get g := by
    split <;> grind [FirstOut.get_dropAt]
  simp only [firstOutAfterEntry, registerAfterEntry]
  generalize (if row.group = e.group then f else f.dropAt row.group q) = changed at hchange ⊢
  split
  · rw [FirstOut.get_dropAt, hchange]; grind
  · split
    · rw [FirstOut.get_take, hchange]; grind [isNewRaise]
    · rw [hchange]; grind [isNewRaise]

/-- An entry acts on the register of each group by the row as it stood before the entry (R101). -/
theorem takeEntry_firstOut (g : FirstOutGroup) :
    (takeEntry p m e).firstOut.get g =
      registerAfterEntry { owner := p, index := e.index } m.remote[p][e.index] g (m.firstOut.get g) e :=
  firstOutAfterEntry_get e _ m.remote[p][e.index] g m.firstOut

end Entry

/-! ### The entries of a frame -/

section Entries

variable (p : StationNo)

/-- The entries reach the rows of their sender that they name, and no others (R99). -/
theorem foldl_takeEntry_remote_of_not_mem (es : List AnnounceEntry) (m : MirrorTable) {q : StationNo} {i : PointIndex}
    (h : q ≠ p ∨ i ∉ es.map (·.index)) : (es.foldl (takeEntry p) m).remote[q][i] = m.remote[q][i] := by
  induction es generalizing m with
  | nil => rfl
  | cons e es ih =>
    rw [List.map_cons, List.mem_cons, not_or] at h
    rw [List.foldl_cons, ih _ (h.imp_right (·.2)), takeEntry_remote, if_neg]
    rintro ⟨hq, hi⟩
    exact h.elim (· hq) (·.1 hi)

/-- No point occurs twice in a frame (Table 26), so each entry finds its row as it stood before the frame. -/
theorem foldl_takeEntry_remote_of_mem (es : List AnnounceEntry) (hnodup : (es.map (·.index)).Nodup) (m : MirrorTable)
    {e : AnnounceEntry} (he : e ∈ es) :
    (es.foldl (takeEntry p) m).remote[p][e.index] = rowAfterEntry m.remote[p][e.index] e := by
  induction es generalizing m with
  | nil => cases he
  | cons a es ih =>
    rw [List.map_cons, List.nodup_cons] at hnodup
    obtain ⟨ha, hnodup⟩ := hnodup
    rw [List.foldl_cons]
    rcases List.mem_cons.mp he with rfl | he
    · rw [foldl_takeEntry_remote_of_not_mem p es _ (.inr ha), takeEntry_remote, if_pos ⟨rfl, rfl⟩]
    · have hne : e.index ≠ a.index := fun heq => ha (heq ▸ List.mem_map_of_mem he)
      rw [ih hnodup _ he, takeEntry_remote, if_neg fun h => hne h.2]

theorem foldl_takeEntry_ownHorn (es : List AnnounceEntry) (m : MirrorTable) :
    (es.foldl (takeEntry p) m).ownHorn = m.ownHorn :=
  foldl_keeps (takeEntry_ownHorn p) es m

/-- The entries act on a register one after another, each by its row as it stood before the frame (R101). -/
theorem foldl_takeEntry_firstOut (es : List AnnounceEntry) (hnodup : (es.map (·.index)).Nodup) (m : MirrorTable)
    (g : FirstOutGroup) :
    (es.foldl (takeEntry p) m).firstOut.get g =
      es.foldl (fun r e => registerAfterEntry { owner := p, index := e.index } m.remote[p][e.index] g r e)
        (m.firstOut.get g) := by
  induction es generalizing m with
  | nil => rfl
  | cons a es ih =>
    rw [List.map_cons, List.nodup_cons] at hnodup
    obtain ⟨ha, hnodup⟩ := hnodup
    rw [List.foldl_cons, List.foldl_cons, ih hnodup, takeEntry_firstOut]
    refine List.foldl_ext _ _ _ fun r e he => ?_
    have hne : e.index ≠ a.index := fun heq => ha (heq ▸ List.mem_map_of_mem he)
    rw [takeEntry_remote, if_neg fun h => hne h.2]

end Entries

/-! ### A whole ANNOUNCE -/

/-- The indices of a valid ANNOUNCE are different (Table 26). -/
theorem nodup_of_hears {h : Header} {es : List AnnounceEntry} {s : State}
    (hears : Hears { header := h, body := .announce es } s) : (es.map (·.index)).Nodup := by
  obtain ⟨-, hrange, -⟩ := hears
  simp only [bodyInRange, entriesInRange, Bool.and_eq_true, decide_eq_true_eq] at hrange
  obtain ⟨⟨-, hnodup⟩, -⟩ := hrange
  exact hnodup

/-- A valid frame of a peer is taken once its halves are heard (R36). -/
theorem takeFrame_of_hears {f : Frame} {s : State} (hears : Hears f s) :
    takeFrame f s = takePeerFrame f (hearFrame f s) := by
  obtain ⟨hreceiver, hrange, hpeer⟩ := hears
  rw [takeFrame, if_neg (not_not_intro hreceiver), if_neg (by rw [hrange]; decide), if_neg hpeer]

/-- An ANNOUNCE of a peer: its entries act on the Mirror Table that the presence hand-ons leave, and no own record and no
place of the Announcement List changes (R73, R99). -/
theorem exec_receiveAnnounce {h : Header} {es : List AnnounceEntry} {s : State}
    (hears : Hears { header := h, body := .announce es } s) :
    ∃ t, exec (.receiveAnnounce h es) s = .next t ∧
      t.mirror = es.foldl (takeEntry h.sender) (mirrorHeard h.sender s) ∧ t.points = s.points ∧ t.list = s.list := by
  have ⟨_, _, hpeer⟩ := hears
  obtain ⟨hpoints, hmirror⟩ := peerHeard_points_mirror (h := h) (kind := .announce)
    (s := rotateTo h.sender (hearFrame { header := h, body := .announce es } s)) (by decide) hpeer
  refine ⟨_, rfl, ?_, ?_, ?_⟩ <;>
    simp only [takeFrame_of_hears hears, takePeerFrame, noteHorn_frame, adopt_frame, takeBody, bodyKind]
  · exact congrArg (es.foldl (takeEntry h.sender)) hmirror
  · exact hpoints
  · simp only [peerHeard_frame, rotateTo_frame, hearFrame_frame]

/-- An entry reads no stale mark of its row (R100). -/
theorem rowAfterEntry_returned (wasPresent : Bool) (row : MirrorRow) (e : AnnounceEntry) :
    rowAfterEntry (returned wasPresent row) e = rowAfterEntry row e := by
  cases wasPresent <;> rfl

/-- The register steps read no stale mark of the row (R101). -/
theorem registerAfterEntry_returned (wasPresent : Bool) (q : PointRef) (row : MirrorRow) (g : FirstOutGroup)
    (before : Option PointRef) (e : AnnounceEntry) :
    registerAfterEntry q (returned wasPresent row) g before e = registerAfterEntry q row g before e := by
  cases wasPresent <;> rfl

/-- Settles O21: each entry writes its row as it stood before the frame, and the presence hand-ons reach the other rows of
the sender. -/
theorem announceWritesTheRows : Obligations.AnnounceWritesTheRows := by
  intro h es s hears
  have hnodup := nodup_of_hears hears
  obtain ⟨t, hexec, hmirror, hpoints, hlist⟩ := exec_receiveAnnounce hears
  refine ⟨t, hexec, fun e he => ?_, fun i hi => ?_, fun p i hp => ?_, ?_, hpoints, hlist⟩ <;> rw [hmirror]
  · rw [foldl_takeEntry_remote_of_mem _ es hnodup _ he, mirrorHeard_remote, if_pos rfl, rowAfterEntry_returned]
  · rw [foldl_takeEntry_remote_of_not_mem _ es _ (.inr hi), mirrorHeard_remote, if_pos rfl]
  · rw [foldl_takeEntry_remote_of_not_mem _ es _ (.inl hp), mirrorHeard_remote, if_neg hp]
  · rw [foldl_takeEntry_ownHorn, mirrorHeard_ownHorn]

/-- Settles O22: the register steps of the entries, one after another, on the registers that the presence hand-ons leave as
they were. -/
theorem announceActsOnFirstOutRegisters : Obligations.AnnounceActsOnFirstOutRegisters := by
  intro h es s g hears
  have hnodup := nodup_of_hears hears
  obtain ⟨t, hexec, hmirror, -, -⟩ := exec_receiveAnnounce hears
  refine ⟨t, hexec, ?_⟩
  simp only [hmirror, foldl_takeEntry_firstOut _ es hnodup, mirrorHeard_firstOut, mirrorHeard_remote, if_true,
    registerAfterEntry_returned]

end Sys2Proof.Machine
end

section
/-! PROOFS. What the samples of the keys and of the field inputs leave unchanged. -/

namespace Sys2Proof.Machine

open Sys2Proof.Safety

/-! ### Frames of the key and field-input samples -/

/-- The samples of all field inputs reach what one of them reaches (R4). -/
@[simp] theorem samplePoints_frame (longest : DebounceClass) (levels : Mask) (l : List PointIndex) (s : State) :
    (l.foldl (samplePoint longest levels) s).startup = s.startup ∧
    (l.foldl (samplePoint longest levels) s).line = s.line ∧
    (l.foldl (samplePoint longest levels) s).access = s.access ∧
    (l.foldl (samplePoint longest levels) s).member = s.member ∧
    (l.foldl (samplePoint longest levels) s).peers = s.peers ∧
    (l.foldl (samplePoint longest levels) s).keys = s.keys ∧
    (l.foldl (samplePoint longest levels) s).queue = s.queue ∧
    (l.foldl (samplePoint longest levels) s).time = s.time ∧
    (l.foldl (samplePoint longest levels) s).panel = s.panel ∧
    (l.foldl (samplePoint longest levels) s).pins = s.pins ∧
    (l.foldl (samplePoint longest levels) s).pending = s.pending := by
  and_intros <;> exact foldl_keeps (fun _ _ => by simp) _ _

/-- The claims of a key reach the own points, the list and the own rows only (R19). -/
@[simp] theorem localClaims_frame (moveOf : PointMode → PointState → Option PointState) (test : PointState → Bool)
    (l : List PointIndex) (s : State) :
    (l.foldl (localClaim (versionedClaim moveOf) test) s).startup = s.startup ∧
    (l.foldl (localClaim (versionedClaim moveOf) test) s).disagree = s.disagree ∧
    (l.foldl (localClaim (versionedClaim moveOf) test) s).line = s.line ∧
    (l.foldl (localClaim (versionedClaim moveOf) test) s).access = s.access ∧
    (l.foldl (localClaim (versionedClaim moveOf) test) s).member = s.member ∧
    (l.foldl (localClaim (versionedClaim moveOf) test) s).peers = s.peers ∧
    (l.foldl (localClaim (versionedClaim moveOf) test) s).keys = s.keys ∧
    (l.foldl (localClaim (versionedClaim moveOf) test) s).queue = s.queue ∧
    (l.foldl (localClaim (versionedClaim moveOf) test) s).time = s.time ∧
    (l.foldl (localClaim (versionedClaim moveOf) test) s).panel = s.panel ∧
    (l.foldl (localClaim (versionedClaim moveOf) test) s).pins = s.pins ∧
    (l.foldl (localClaim (versionedClaim moveOf) test) s).pending = s.pending := by
  and_intros <;> refine foldl_keeps (fun _ _ => ?_) _ _ <;> simp only [localClaim] <;> split <;> simp

section Keys

variable (level : Bool) (s : State)

/-- A press of KACK reaches the own points, the list, the own rows and the queue (R117, R118). -/
@[simp] theorem pressKack_frame :
    (pressKack s).startup = s.startup ∧ (pressKack s).disagree = s.disagree ∧ (pressKack s).line = s.line ∧
    (pressKack s).access = s.access ∧ (pressKack s).member = s.member ∧ (pressKack s).peers = s.peers ∧
    (pressKack s).keys = s.keys ∧ (pressKack s).time = s.time ∧ (pressKack s).panel = s.panel ∧
    (pressKack s).pins = s.pins ∧ (pressKack s).pending = s.pending := by
  simp [pressKack, acknowledge_eta]

/-- A press of KRST reaches what a press of KACK reaches (R119). -/
@[simp] theorem pressKrst_frame :
    (pressKrst s).startup = s.startup ∧ (pressKrst s).disagree = s.disagree ∧ (pressKrst s).line = s.line ∧
    (pressKrst s).access = s.access ∧ (pressKrst s).member = s.member ∧ (pressKrst s).peers = s.peers ∧
    (pressKrst s).keys = s.keys ∧ (pressKrst s).time = s.time ∧ (pressKrst s).panel = s.panel ∧
    (pressKrst s).pins = s.pins ∧ (pressKrst s).pending = s.pending := by
  simp [pressKrst, resetClaim_eta]

/-- The sample of KACK (R116). -/
@[simp] theorem sampleKack_frame :
    (sampleKack level s).startup = s.startup ∧ (sampleKack level s).disagree = s.disagree ∧
    (sampleKack level s).line = s.line ∧ (sampleKack level s).access = s.access ∧
    (sampleKack level s).member = s.member ∧ (sampleKack level s).peers = s.peers ∧
    (sampleKack level s).time = s.time ∧ (sampleKack level s).panel = s.panel ∧
    (sampleKack level s).pins = s.pins ∧ (sampleKack level s).pending = s.pending := by
  simp only [sampleKack]
  split <;> simp

/-- The sample of KRST (R116). -/
@[simp] theorem sampleKrst_frame :
    (sampleKrst level s).startup = s.startup ∧ (sampleKrst level s).disagree = s.disagree ∧
    (sampleKrst level s).line = s.line ∧ (sampleKrst level s).access = s.access ∧
    (sampleKrst level s).member = s.member ∧ (sampleKrst level s).peers = s.peers ∧
    (sampleKrst level s).time = s.time ∧ (sampleKrst level s).panel = s.panel ∧
    (sampleKrst level s).pins = s.pins ∧ (sampleKrst level s).pending = s.pending := by
  simp only [sampleKrst]
  split <;> simp

/-- The sample of KSIL (R116); it touches no record and no place of the list. -/
@[simp] theorem sampleKsil_frame :
    (sampleKsil level s).startup = s.startup ∧ (sampleKsil level s).disagree = s.disagree ∧
    (sampleKsil level s).points = s.points ∧ (sampleKsil level s).list = s.list ∧
    (sampleKsil level s).line = s.line ∧ (sampleKsil level s).access = s.access ∧
    (sampleKsil level s).member = s.member ∧ (sampleKsil level s).peers = s.peers ∧
    (sampleKsil level s).time = s.time ∧ (sampleKsil level s).panel = s.panel ∧
    (sampleKsil level s).pins = s.pins ∧ (sampleKsil level s).pending = s.pending := by
  simp only [sampleKsil]
  split <;> simp

/-- The sample of KTST reaches the Key Scanner only (R121). -/
@[simp] theorem sampleKtst_frame :
    (sampleKtst level s).startup = s.startup ∧ (sampleKtst level s).disagree = s.disagree ∧
    (sampleKtst level s).points = s.points ∧ (sampleKtst level s).list = s.list ∧
    (sampleKtst level s).line = s.line ∧ (sampleKtst level s).access = s.access ∧
    (sampleKtst level s).member = s.member ∧ (sampleKtst level s).peers = s.peers ∧
    (sampleKtst level s).mirror = s.mirror ∧ (sampleKtst level s).queue = s.queue ∧
    (sampleKtst level s).time = s.time ∧ (sampleKtst level s).panel = s.panel ∧
    (sampleKtst level s).pins = s.pins ∧ (sampleKtst level s).pending = s.pending := by
  simp [sampleKtst]

end Keys

/-- KEY_SAMPLE outside LOADING: the four keys one after another (R116). -/
theorem exec_keySample_running (levels : KeyPins) (s : State) (hl : loading s = false) :
    exec (.keySample levels) s =
      .next (noteHorn (sampleKtst levels.ktst (sampleKsil levels.ksil (sampleKrst levels.krst
        (sampleKack levels.kack { s with pins := { s.pins with keys := levels } }))))) :=
  if_neg (ne_true_of_eq_false hl)

/-- KEY_SAMPLE in LOADING: the scanner is stopped (R116). -/
theorem exec_keySample_loading (levels : KeyPins) (s : State) (hl : loading s = true) :
    exec (.keySample levels) s = .next { s with pins := { s.pins with keys := levels } } :=
  if_pos hl

/-- FIELD_INPUT_SAMPLE reaches the own points, the list, the Mirror Table and the horn, and presents its levels (R1 to R5). -/
theorem exec_fieldInputSample_frame {longest : DebounceClass} {levels : Mask} {s t : State}
    (h : exec (.fieldInputSample longest levels) s = .next t) :
    t.startup = s.startup ∧ t.line = s.line ∧ t.access = s.access ∧ t.member = s.member ∧ t.peers = s.peers ∧
    t.keys = s.keys ∧ t.queue = s.queue ∧ t.time = s.time ∧
    t.panel = { s.panel with hornCut := t.panel.hornCut } ∧ t.pins = { s.pins with fi := levels } ∧
    t.pending = s.pending := by
  cases hl : loading s with
  | true =>
    rw [exec_fieldInputSample_loading longest levels s hl] at h
    obtain rfl := Host.Outcome.next.inj h
    simp
  | false =>
    rw [exec_fieldInputSample_running longest levels s hl] at h
    obtain rfl := Host.Outcome.next.inj h
    simp

/-- KEY_SAMPLE reaches the own points, the list, the Mirror Table, the keys, the queue and the horn, and presents its
levels (R115 to R121). -/
theorem exec_keySample_frame {levels : KeyPins} {s t : State} (h : exec (.keySample levels) s = .next t) :
    t.startup = s.startup ∧ t.disagree = s.disagree ∧ t.line = s.line ∧ t.access = s.access ∧ t.member = s.member ∧
    t.peers = s.peers ∧ t.time = s.time ∧ t.panel = { s.panel with hornCut := t.panel.hornCut } ∧
    t.pins = { s.pins with keys := levels } ∧ t.pending = s.pending := by
  cases hl : loading s with
  | true =>
    rw [exec_keySample_loading levels s hl] at h
    obtain rfl := Host.Outcome.next.inj h
    simp
  | false =>
    rw [exec_keySample_running levels s hl] at h
    obtain rfl := Host.Outcome.next.inj h
    simp

end Sys2Proof.Machine
end

section
/-! PROOFS. What every command keeps of reset and LOADING: the stopped blocks, the Start-up Controller, the Membership
Controller, and one step (O52). -/

namespace Sys2Proof.Machine

open Sys2Proof.Safety

/-- The line, the Access Controller, the Membership Controller and the Presence Table stand stopped, as in LOADING. -/
structure Stopped (s : State) : Prop where
  line : s.line = .reset
  access : s.access = .reset
  member : s.member = .reset
  peers : s.peers = Vector.replicate 16 .reset

/-- A frame that ends outside FRAME is not taken (R29). -/
theorem takeFrame_of_not_frame (f : Frame) {s : State} (h : s.line.receiver ≠ .frame) : takeFrame f s = s := if_pos h

theorem exec_stopped {c : Instr} {s t : State} (hs : Stopped s) (hc : ∀ cause, c ≠ .stationReset cause)
    (he : c ≠ .endOfLoading) (h : exec c s = .next t) :
    t = { s with startup := t.startup, panel := t.panel, pins := t.pins } ∧
    t.panel.hornPeriod = s.panel.hornPeriod ∧ t.startup.configFault = s.startup.configFault ∧
    t.startup.period = s.startup.period ∧
    (inReset s = true → (∀ straps, c ≠ .releaseOfReset straps) → t.startup = s.startup ∧ t.panel = s.panel) := by
  have hload : loading s = true := by simp [loading, hs.member, MembershipController.reset]
  have hpins : ∀ pins, loading { s with pins := pins } = true := fun _ => hload
  have hown : s.member.own = .loading := by rw [hs.member]; rfl
  have hrx : s.line.receiver = .off := by rw [hs.line]; rfl
  have hst : s.line.status = .busy := by rw [hs.line]; rfl
  have hatt : s.access.attempt = none := by rw [hs.access]; rfl
  have hlad : s.access.ladder = none := by rw [hs.access]; rfl
  have hun : s.access.unheardWait = false := by rw [hs.access]; rfl
  have hpt : s.access.presenceTimer = .stopped := by rw [hs.access]; rfl
  have hpres : ∀ x, isPresent s x = false := by
    intro x; simp [isPresent, hs.peers, PeerEntry.reset]
  have hframe : ∀ f, takeFrame f s = s := fun f => takeFrame_of_not_frame f (by rw [hrx]; decide)
  cases c with
  | stationReset cause => exact absurd rfl (hc cause)
  | endOfLoading => exact absurd rfl he
  | fieldInputSample | keySample =>
    simp only [exec, execFieldInputSample, execKeySample, hpins, if_true] at h
    cases h; simp
  | cdiSample =>
    simp only [exec, execCdiSample] at h
    split at h
    · next hread => cases h; simp_all [readingImage]
    · cases h; simp
  | commonPeriodStart | supplyWarningEvent | supplyRecoveryEvent | releaseOfReset =>
    simp only [exec, execCommonPeriodStart, execSupplyWarningEvent, execSupplyRecoveryEvent, execReleaseOfReset,
      supplyWarned, supplyRecovered, hown] at h
    split at h <;> cases h <;> simp_all
  | _ =>
    simp [exec, execLineBusy, execLineQuiet, execLadderRepeat,
      execLadderStartAfterUnheardAttempt, execSlotStart, execOwnStartMarkEnd, execCollision, execAttemptSuccess,
      execAttemptFailure, execJamEvent, execPresenceTimerExpiry, execListenWindowEnd, execLostTimerExpiry,
      execStartOfFrame, execDamagedFrame, execReceivePresence,
      execReceiveHello, execReceiveAnnounce, execReceiveAckReq, execReceiveResetReq, execReceiveRefreshReq,
      execReceiveSilence, execReceiveDepart, execReceiveOwnNumberFrame, execFirstHighSample, execSpike,
      execUnframedCarrier, execToneInstant, hframe, expired, Timer.stopped,
      hload, hown, hrx, hst, hatt, hlad, hun, hpt, hpres] at h
    subst h
    simp

section Member

variable (s : State)

@[simp] theorem stopPresence_access :
    (stopPresence s).access = { s.access with presenceTimer := .stopped, presencePending := false } := rfl

@[simp] theorem startPresence_access :
    (startPresence s).access = { s.access with presenceTimer := .started, presencePending := false } := rfl

@[simp] theorem enterWarning_member :
    (enterWarning s).member =
      { s.member with
        own := .warning, departPending := true, departFailures := 0, listenTimer := .stopped
        returnState := some (if s.member.own = .listen then .listen else .group) } := by
  simp [enterWarning]

/-- What a supply-warning event makes of the Membership Controller (Table 87). -/
theorem supplyWarned_member :
    (supplyWarned s).member =
      if s.member.own = .listen ∨ s.member.own = .group ∨ s.member.own = .solo then (enterWarning s).member
      else if s.member.own = .warning then { s.member with heldRecovery := false }
      else s.member := by
  unfold supplyWarned
  cases hown : s.member.own <;> simp

/-- Entry to LISTEN (R61); with SUPPLY WARNING set it goes on to WARNING at once. -/
theorem enterListen_member :
    (enterListen s).member =
      if s.startup.supplyWarning = true then
        { own := .warning, listenTimer := .stopped, helloQueued := false, departPending := true, departFailures := 0
          heldRecovery := false, returnState := some .listen }
      else
        { own := .listen, listenTimer := .started, helloQueued := false, departPending := false
          departFailures := s.member.departFailures, heldRecovery := false, returnState := none } := by
  simp only [enterListen]
  by_cases hw : s.startup.supplyWarning = true <;> simp [hw, supplyWarned_member]

@[simp] theorem enterListen_access :
    (enterListen s).access = { s.access with presenceTimer := .stopped, presencePending := false } := by
  simp only [enterListen]
  split <;> simp

/-- The DEPART is withdrawn (R68). -/
theorem leaveWarning_member :
    (leaveWarning s).member =
      if s.member.returnState = some .listen then (enterListen s).member
      else { s.member with own := presenceRule s, departPending := false, heldRecovery := false, returnState := none } := by
  unfold leaveWarning
  split <;> simp_all

theorem leaveWarning_access :
    (leaveWarning s).access =
      if s.member.returnState = some .listen then
        { s.access with presenceTimer := .stopped, presencePending := false } else s.access := by
  unfold leaveWarning
  split <;> simp_all

@[simp] theorem enterDeparted_member :
    (enterDeparted s).member =
      { s.member with
        own := .departed, helloQueued := false, departPending := false, heldRecovery := false, returnState := none } := by
  simp [enterDeparted]

@[simp] theorem enterDeparted_access :
    (enterDeparted s).access = { s.access with presenceTimer := .stopped, presencePending := false } := rfl

/-- What a supply-recovery event makes of the Membership Controller (Table 87). -/
theorem supplyRecovered_member :
    (supplyRecovered s).member =
      if s.member.own = .warning then
        if departInFlight s = true then { s.member with heldRecovery := true } else (leaveWarning s).member
      else if s.member.own = .departed then (enterListen s).member
      else s.member := by
  unfold supplyRecovered
  cases hown : s.member.own <;> simp
  split <;> rfl

theorem supplyRecovered_access :
    (supplyRecovered s).access =
      if s.member.own = .warning then
        if departInFlight s = true then s.access else (leaveWarning s).access
      else if s.member.own = .departed then (enterListen s).access
      else s.access := by
  unfold supplyRecovered
  cases hown : s.member.own <;> simp
  split <;> rfl

/-- Entry to DUPLICATE (R70). -/
theorem enterDuplicate_member :
    (enterDuplicate s).member =
      if s.member.own = .duplicate ∨ s.member.own = .loading then s.member
      else
        { s.member with
          own := .duplicate, listenTimer := .stopped, helloQueued := false, departPending := false
          heldRecovery := false, returnState := none } := by
  unfold enterDuplicate
  split <;> simp

theorem enterDuplicate_access :
    (enterDuplicate s).access =
      if s.member.own = .duplicate ∨ s.member.own = .loading then s.access
      else { s.access with presenceTimer := .stopped, presencePending := false } := by
  unfold enterDuplicate
  split <;> simp

/-- GROUP and SOLO by the Presence Table (R65). -/
theorem followPresence_member :
    (followPresence s).member =
      if s.member.own = .group ∨ s.member.own = .solo then { s.member with own := presenceRule s } else s.member := by
  unfold followPresence
  split <;> simp

/-- A success of a DEPART (R67, R68). -/
theorem departSucceeded_member :
    (departSucceeded s).member =
      if s.member.heldRecovery = true then (enterListen (enterDeparted s)).member else (enterDeparted s).member := by
  unfold departSucceeded
  split <;> rfl

@[simp] theorem departSucceeded_access :
    (departSucceeded s).access = { s.access with presenceTimer := .stopped, presencePending := false } := by
  unfold departSucceeded
  split <;> simp

/-- The presence rule gives GROUP or SOLO (R65). -/
theorem presenceRule_cases : presenceRule s = .group ∧ anyPresent s = true ∨ presenceRule s = .solo ∧ anyPresent s = false := by
  unfold presenceRule
  cases h : anyPresent s <;> simp

end Member

/-- The commands that can write the Start-up Controller. -/
def touchesStartup : Instr → Bool
  | .stationReset _ => true
  | .releaseOfReset _ => true
  | .endOfLoading => true
  | .cdiSample _ => true
  | .supplyWarningEvent => true
  | .supplyRecoveryEvent => true
  | _ => false

/-- All other commands leave the Start-up Controller as it is. -/
theorem exec_startup {c : Instr} {s t : State} (h : exec c s = .next t) (hc : touchesStartup c = false) :
    t.startup = s.startup := by
  cases c with
  | stationReset | releaseOfReset | endOfLoading | cdiSample | supplyWarningEvent | supplyRecoveryEvent =>
    simp [touchesStartup] at hc
  | receivePresence | receiveHello | receiveAnnounce | receiveAckReq | receiveResetReq | receiveRefreshReq
  | receiveSilence | receiveDepart =>
    cases h
    simp
  | fieldInputSample => exact (exec_fieldInputSample_frame h).1
  | keySample => exact (exec_keySample_frame h).1
  | damagedFrame | spike | unframedCarrier | slotStart | attemptSuccess
  | attemptFailure | jamEvent | listenWindowEnd | lostTimerExpiry | receiveOwnNumberFrame =>
    simp only [exec, execDamagedFrame, execSpike, execUnframedCarrier,
      execSlotStart, execAttemptSuccess, execAttemptFailure, execJamEvent, execListenWindowEnd, execLostTimerExpiry,
      execReceiveOwnNumberFrame] at h
    (repeat' split at h) <;> cases h <;> simp
  | lineBusy | lineQuiet | ladderRepeat | ladderStartAfterUnheardAttempt | ownStartMarkEnd | collision
  | presenceTimerExpiry | startOfFrame | firstHighSample | commonPeriodStart | toneInstant =>
    simp only [exec, execLineBusy, execLineQuiet, execLadderRepeat,
      execLadderStartAfterUnheardAttempt, execOwnStartMarkEnd, execCollision, execPresenceTimerExpiry, execStartOfFrame,
      execFirstHighSample, execCommonPeriodStart, execToneInstant] at h
    (repeat' split at h) <;> cases h <;> rfl

/-! ### Membership after the commands that can write it -/

section Heard

variable (p : StationNo) (s : State)

/-- The presence rule reads the Presence Table and the own number only (R65). -/
theorem presenceRule_congr {s t : State} (hpeers : t.peers = s.peers) (hnumber : ownNumber t = ownNumber s) :
    presenceRule t = presenceRule s := by
  unfold presenceRule anyPresent isPresent
  rw [hpeers, hnumber]

theorem becamePresent_member :
    (becamePresent p s).member =
      if s.member.own = .group ∨ s.member.own = .solo then { s.member with own := presenceRule s } else s.member := by
  rw [becamePresent, followPresence_member]
  exact if_congr Iff.rfl (by rw [presenceRule_congr (s := s)] <;> rfl) rfl

theorem lostPresence_member :
    (lostPresence p s).member =
      if s.member.own = .group ∨ s.member.own = .solo then { s.member with own := presenceRule s } else s.member := by
  rw [lostPresence, followPresence_member]
  exact if_congr Iff.rfl (by rw [presenceRule_congr (s := s)] <;> rfl) rfl

end Heard

/-- A valid frame of a peer: the own state follows the Presence Table where the peer's entry changes its state (R65, R73). -/
theorem peerHeard_member (h : Header) (kind : FrameKind) (s : State) :
    (peerHeard h kind s).member =
      if s.peers[h.sender].state ≠ (entryAfter kind h).state ∧ (s.member.own = .group ∨ s.member.own = .solo) then
        { s.member with own := presenceRule { s with peers := s.peers.set h.sender (entryAfter kind h) } }
      else s.member := by
  by_cases hstate : s.peers[h.sender].state = (entryAfter kind h).state
  · simp only [peerHeard, hstate, if_true, ne_eq, not_true, false_and, if_false]
    split <;> rfl
  · simp only [peerHeard, hstate, if_false, ne_eq, not_false_eq_true, true_and]
    (repeat' split) <;> simp_all [becamePresent_member, lostPresence_member]

theorem takePeerFrame_member (f : Frame) (s : State) :
    (takePeerFrame f s).member = (peerHeard f.header (bodyKind f.body) s).member := by
  simp only [takePeerFrame, noteHorn_frame, adopt_frame, takeBody_frame, peerHeard_member, rotateTo_frame]
  rfl

/-- The commands that can write the Membership Controller. -/
def touchesMember : Instr → Bool
  | .stationReset _ => true
  | .endOfLoading => true
  | .attemptSuccess => true
  | .attemptFailure => true
  | .listenWindowEnd => true
  | .lostTimerExpiry _ => true
  | .supplyWarningEvent => true
  | .supplyRecoveryEvent => true
  | .receivePresence _ _ => true
  | .receiveHello _ _ => true
  | .receiveAnnounce _ _ => true
  | .receiveAckReq _ _ _ => true
  | .receiveResetReq _ _ _ => true
  | .receiveRefreshReq _ _ => true
  | .receiveSilence _ => true
  | .receiveDepart _ => true
  | .receiveOwnNumberFrame => true
  | _ => false

/-- All other commands leave the Membership Controller as it is. -/
theorem exec_member {c : Instr} {s t : State} (h : exec c s = .next t) (hc : touchesMember c = false) :
    t.member = s.member := by
  cases c with
  | stationReset | endOfLoading | attemptSuccess | attemptFailure | listenWindowEnd | lostTimerExpiry
  | supplyWarningEvent | supplyRecoveryEvent | receivePresence | receiveHello | receiveAnnounce | receiveAckReq
  | receiveResetReq | receiveRefreshReq | receiveSilence | receiveDepart | receiveOwnNumberFrame =>
    simp [touchesMember] at hc
  | fieldInputSample => exact (exec_fieldInputSample_frame h).2.2.2.1
  | keySample => exact (exec_keySample_frame h).2.2.2.2.1
  | damagedFrame | spike | unframedCarrier | slotStart | jamEvent =>
    simp only [exec, execDamagedFrame, execSpike, execUnframedCarrier, execSlotStart, execJamEvent] at h
    (repeat' split at h) <;> cases h <;> simp
  | releaseOfReset | cdiSample | lineBusy | lineQuiet | ladderRepeat | ladderStartAfterUnheardAttempt | ownStartMarkEnd
  | collision | presenceTimerExpiry | startOfFrame | firstHighSample | commonPeriodStart | toneInstant =>
    simp only [exec, execReleaseOfReset, execCdiSample, execLineBusy, execLineQuiet, execLadderRepeat,
      execLadderStartAfterUnheardAttempt, execOwnStartMarkEnd, execCollision, execPresenceTimerExpiry, execStartOfFrame,
      execFirstHighSample, execCommonPeriodStart, execToneInstant] at h
    (repeat' split at h) <;> cases h <;> rfl

/-! ### LOADING and reset -/

/-- Outside LOADING no supply event takes the station there, and no entry of Chapter 4 does. -/
theorem presenceRule_ne_loading (s : State) : presenceRule s ≠ .loading := by
  unfold presenceRule
  split <;> decide

theorem supplyWarned_ne_loading {s : State} (h : s.member.own ≠ .loading) : (supplyWarned s).member.own ≠ .loading := by
  rw [supplyWarned_member]
  (repeat' split) <;> simp_all

theorem enterListen_ne_loading (s : State) : (enterListen s).member.own ≠ .loading := by
  rw [enterListen_member]
  split <;> simp

theorem leaveWarning_ne_loading (s : State) : (leaveWarning s).member.own ≠ .loading := by
  rw [leaveWarning_member]
  split
  · exact enterListen_ne_loading s
  · exact presenceRule_ne_loading s

theorem supplyRecovered_ne_loading {s : State} (h : s.member.own ≠ .loading) :
    (supplyRecovered s).member.own ≠ .loading := by
  rw [supplyRecovered_member]
  (repeat' split)
  · exact h
  · exact leaveWarning_ne_loading s
  · exact enterListen_ne_loading s
  · exact h

theorem peerHeard_ne_loading {h : Header} {kind : FrameKind} {s : State} (hs : s.member.own ≠ .loading) :
    (peerHeard h kind s).member.own ≠ .loading := by
  rw [peerHeard_member]
  split
  · exact presenceRule_ne_loading _
  · exact hs

theorem enterDuplicate_ne_loading {s : State} (h : s.member.own ≠ .loading) :
    (enterDuplicate s).member.own ≠ .loading := by
  rw [enterDuplicate_member]
  split
  · exact h
  · simp

theorem takeOwnNumberFrame_ne_loading {s : State} (h : s.member.own ≠ .loading) :
    (takeOwnNumberFrame s).member.own ≠ .loading :=
  enterDuplicate_ne_loading (by simpa using h)

theorem takeFrame_ne_loading {f : Frame} {s : State} (h : s.member.own ≠ .loading) :
    (takeFrame f s).member.own ≠ .loading := by
  unfold takeFrame
  split
  · exact h
  · split
    · simpa using h
    · split
      · exact takeOwnNumberFrame_ne_loading (by simpa using h)
      · rw [takePeerFrame_member]
        exact peerHeard_ne_loading (by simpa using h)

theorem departSucceeded_ne_loading (s : State) : (departSucceeded s).member.own ≠ .loading := by
  rw [departSucceeded_member]
  split
  · exact enterListen_ne_loading _
  · simp

theorem departFailed_ne_loading {s : State} (h : s.member.own ≠ .loading) : (departFailed s).member.own ≠ .loading := by
  simp only [departFailed]
  (repeat' split)
  · exact leaveWarning_ne_loading s
  · simp
  · exact h

theorem reportSuccess_ne_loading {b : Body} {s : State} (h : s.member.own ≠ .loading) :
    (reportSuccess b s).member.own ≠ .loading := by
  cases b with
  | depart => exact departSucceeded_ne_loading s
  | hello m => simpa [reportSuccess, helloSucceeded] using h
  | _ => simpa [reportSuccess] using h

theorem reportFailure_ne_loading {b : Body} {s : State} (h : s.member.own ≠ .loading) :
    (reportFailure b s).member.own ≠ .loading := by
  cases b with
  | depart => exact departFailed_ne_loading h
  | _ => simpa [reportFailure] using h

/-- Only a station reset takes the station to LOADING (R61 to R70, R158). -/
theorem exec_ne_loading {c : Instr} {s t : State} (h : exec c s = .next t) (hc : ∀ cause, c ≠ .stationReset cause)
    (hs : s.member.own ≠ .loading) : t.member.own ≠ .loading := by
  cases c with
  | stationReset cause => exact absurd rfl (hc cause)
  | endOfLoading =>
    simp only [exec, execEndOfLoading] at h
    split at h <;> cases h
    · exact enterListen_ne_loading _
    · exact hs
  | receivePresence | receiveHello | receiveAnnounce | receiveAckReq | receiveResetReq | receiveRefreshReq
  | receiveSilence | receiveDepart =>
    cases h
    exact takeFrame_ne_loading hs
  | receiveOwnNumberFrame =>
    simp only [exec, execReceiveOwnNumberFrame] at h
    split at h <;> cases h
    · exact takeOwnNumberFrame_ne_loading (by simpa using hs)
    · exact hs
  | attemptSuccess =>
    simp only [exec, execAttemptSuccess] at h
    (repeat' split at h) <;> cases h
    · simpa using reportSuccess_ne_loading (by simpa using hs)
    · exact hs
    · exact hs
  | attemptFailure =>
    simp only [exec, execAttemptFailure] at h
    (repeat' split at h) <;> cases h
    · simpa using reportFailure_ne_loading (by simpa using hs)
    · exact hs
    · exact hs
  | listenWindowEnd =>
    simp only [exec, execListenWindowEnd] at h
    split at h <;> cases h
    · simpa using presenceRule_ne_loading s
    · exact hs
  | lostTimerExpiry p =>
    simp only [exec, execLostTimerExpiry] at h
    split at h <;> cases h
    · rw [lostPresence_member]
      split
      · exact presenceRule_ne_loading _
      · exact hs
    · exact hs
  | supplyWarningEvent =>
    simp only [exec, execSupplyWarningEvent] at h
    split at h <;> cases h
    · exact supplyWarned_ne_loading hs
    · exact hs
  | supplyRecoveryEvent =>
    simp only [exec, execSupplyRecoveryEvent] at h
    split at h <;> cases h
    · exact supplyRecovered_ne_loading hs
    · exact hs
  | _ => rw [exec_member h rfl]; exact hs

/-- END_OF_LOADING where it is not taken. -/
theorem exec_endOfLoading_not {s t : State} (h : exec .endOfLoading s = .next t)
    (hs : (loading s && !inReset s && readOver s.startup) = false) : t = s := by
  have hnot : exec .endOfLoading s = .next s := if_neg (ne_true_of_eq_false hs)
  rw [hnot] at h
  exact (Host.Outcome.next.inj h).symm

/-- LOADING ends only with END_OF_LOADING or a reset: every other command there reaches none of the stopped blocks. -/
theorem stopped_of_loading {s : State} (hq : LoadingQuiescent s) (hs : s.member.own = .loading) : Stopped s := by
  obtain ⟨-, -, -, hline, haccess, hmember, hpeers, -⟩ := hq hs
  exact ⟨hline, haccess, hmember, hpeers⟩

/-- A state in reset is in LOADING with every stopped block at its reset values. -/
theorem loadingQuiescent_inReset (g : ResetGate) (p : InputPins) (q : List Instr) :
    LoadingQuiescent (State.inReset g p q) := by
  intro _
  simp [StartUp.reset, PanelDriver.reset, Config.defaults]

/-- A state outside LOADING says nothing of the stopped blocks. -/
theorem loadingQuiescent_of_ne {s : State} (h : s.member.own ≠ .loading) : LoadingQuiescent s := fun hs => absurd hs h

/-- Every command keeps the stopped blocks of LOADING at their reset values. -/
theorem exec_loadingQuiescent {c : Instr} {s t : State} (h : exec c s = .next t) (hq : LoadingQuiescent s) :
    LoadingQuiescent t := by
  by_cases hreset : ∃ cause, c = .stationReset cause
  · obtain ⟨cause, rfl⟩ := hreset
    cases h
    exact loadingQuiescent_inReset _ _ _
  have hc : ∀ cause, c ≠ .stationReset cause := fun cause e => hreset ⟨cause, e⟩
  by_cases hload : s.member.own = .loading
  · by_cases he : c = .endOfLoading
    · subst he
      simp only [exec, execEndOfLoading] at h
      split at h <;> cases h
      · exact loadingQuiescent_of_ne (enterListen_ne_loading _)
      · exact hq
    · obtain ⟨ht, hhorn, hfault, hperiod, -⟩ := exec_stopped (stopped_of_loading hq hload) hc he h
      have hold := hq hload
      intro _
      rw [hhorn, hfault, hperiod, ht]
      exact hold
  · exact loadingQuiescent_of_ne (exec_ne_loading h hc hload)

/-- The commands that can write the reset causes are those of the reset itself (R158, R159). -/
theorem exec_causes {c : Instr} {s t : State} (h : exec c s = .next t) (hc : ∀ cause, c ≠ .stationReset cause)
    (hr : ∀ straps, c ≠ .releaseOfReset straps) : t.startup.causes = s.startup.causes := by
  cases c with
  | stationReset cause => exact absurd rfl (hc cause)
  | releaseOfReset straps => exact absurd rfl (hr straps)
  | endOfLoading | cdiSample | supplyWarningEvent | supplyRecoveryEvent =>
    simp only [exec, execEndOfLoading, execCdiSample, execSupplyWarningEvent, execSupplyRecoveryEvent] at h
    split at h <;> cases h <;> simp
  | _ => rw [exec_startup h rfl]

/-- Whether reset is in force depends on the causes only. -/
theorem inReset_congr {s t : State} (h : t.startup.causes = s.startup.causes) : inReset t = inReset s := by
  unfold inReset
  rw [h]

/-- Every command keeps every block at its reset values while reset is in force (R158). -/
theorem exec_resetHeld {c : Instr} {s t : State} (h : exec c s = .next t) (hs : ResetHeld s) : ResetHeld t := by
  intro ht
  by_cases hreset : ∃ cause, c = .stationReset cause
  · obtain ⟨cause, rfl⟩ := hreset
    cases h
    rfl
  by_cases hrelease : ∃ straps, c = .releaseOfReset straps
  · obtain ⟨straps, rfl⟩ := hrelease
    simp only [exec, execReleaseOfReset] at h
    split at h <;> cases h
    · simp [inReset, noCauses] at ht
    · exact hs ht
  have hc : ∀ cause, c ≠ .stationReset cause := fun cause e => hreset ⟨cause, e⟩
  have hr : ∀ straps, c ≠ .releaseOfReset straps := fun straps e => hrelease ⟨straps, e⟩
  rw [inReset_congr (exec_causes h hc hr)] at ht
  have heq := hs ht
  by_cases he : c = .endOfLoading
  · subst he
    rw [exec_endOfLoading_not h (by simp [ht])]
    exact heq
  have hstop : Stopped s := by rw [heq]; exact ⟨rfl, rfl, rfl, rfl⟩
  obtain ⟨hblocks, -, -, -, hstay⟩ := exec_stopped hstop hc he h
  obtain ⟨hstartup, hpanel⟩ := hstay ht hr
  rw [hstartup, hpanel] at hblocks
  rw [hblocks]
  generalize t.pins = p
  rw [heq]
  rfl

/-! ### A step -/

/-- An invariant that every command and every tick outside reset keeps, and that the queue of commands does not touch, is
kept by every step. -/
theorem step_keeps {Inv : State → Prop} (hpending : ∀ s q, Inv s → Inv { s with pending := q })
    (hexec : ∀ c s t, exec c s = .next t → Inv s → Inv t)
    (htick : ∀ s, inReset s = false → Inv s → Inv (tickCounters (tickLine s))) {s t : State} (hs : Inv s)
    (h : step s = .next t) : Inv t := by
  unfold step at h
  split at h
  · exact hexec _ _ _ h (hpending s _ hs)
  · obtain rfl := Host.Outcome.next.inj h
    unfold tick
    split
    · exact hs
    · next hreset => exact hpending _ _ (htick s (eq_false_of_ne_true hreset) hs)

@[simp] theorem tickTimer_stopped (n : Nat) : tickTimer n .stopped = .stopped := rfl

/-- The line clock stands outside WAIT. -/
theorem tickLine_of_not_wait {s : State} (h : s.line.receiver ≠ .wait) : tickLine s = s := if_neg h

theorem tick_loadingQuiescent {s : State} (hq : LoadingQuiescent s) : LoadingQuiescent (tickCounters (tickLine s)) := by
  intro hload
  have hown : s.member.own = .loading := by simpa [tickCounters] using hload
  obtain ⟨hdisagree, hpoints, hlist, hline, haccess, hmember, hpeers, hmirror, hkeys, hqueue, hhorn, hfault, hperiod⟩ := hq hown
  rw [tickLine_of_not_wait (by rw [hline]; decide)]
  refine ⟨hdisagree, hpoints, hlist, hline, ?_, ?_, ?_, hmirror, hkeys, hqueue, ?_, hfault, hperiod⟩
  · simp [tickCounters, haccess, AccessController.reset]
  · simp [tickCounters, hmember, MembershipController.reset]
  · ext p hp
    simp [tickCounters, hpeers, PeerEntry.reset]
  · simp only [tickCounters, tickHorn, hhorn]
    split <;> rfl

/-- The causes of a reset do not move with a tick. -/
theorem inReset_tickCounters (s : State) : inReset (tickCounters (tickLine s)) = inReset s := by
  simp [inReset, tickCounters]

theorem resetHeld_pending (s : State) (q : List Instr) (hs : ResetHeld s) : ResetHeld { s with pending := q } := by
  intro h
  have heq := hs h
  generalize s.startup.causes = g, s.pins = p, s.pending = r at heq
  subst heq
  rfl

theorem tick_resetHeld {s : State} (hreset : inReset s = false) : ResetHeld (tickCounters (tickLine s)) := by
  intro h
  rw [inReset_tickCounters, hreset] at h
  exact absurd h (by decide)

theorem step_resetHeld {s t : State} (hs : ResetHeld s) (h : step s = .next t) : ResetHeld t :=
  step_keeps resetHeld_pending (fun _ _ _ => exec_resetHeld) (fun _ hreset _ => tick_resetHeld hreset) hs h

/-- Settles O52: a station reset gives every block its reset values, no other command but the release reaches a block under
reset, and no tick passes. -/
theorem resetHoldsEveryBlock : Obligations.ResetHoldsEveryBlock := fun _ _ hs h => step_resetHeld hs h

end Sys2Proof.Machine
end

section
/-! PROOFS. The line: what each line and attempt command makes of the agreement of receiver, line status, ladder and
attempt. -/

namespace Sys2Proof.Machine

open Sys2Proof.Safety

/-! ### The Line Interface after halves -/

/-- The two counts agree with the status of the line (R28, R38). -/
def CountsCoherent (l : LineInterface) : Prop :=
  (l.status = .quiet ↔ l.quietCount = 24) ∧ (l.status = .quiet → l.jamCount = 0)

/-- Halves keep the counts in agreement: the 24th without carrier is LINE_QUIET's own. -/
theorem foldl_hear_countsCoherent (halves : List Bool) {l : LineInterface} (h : CountsCoherent l) :
    CountsCoherent (halves.foldl LineInterface.hear l) := by
  obtain ⟨hquiet, hjam⟩ := h
  obtain ⟨-, hstatus, -⟩ := foldl_hear_frame halves l
  cases hs : l.status with
  | quiet =>
    obtain ⟨hq, hj⟩ := foldl_hear_quiet halves l hs
    exact ⟨by rw [hstatus, hq]; exact hquiet, by rw [hstatus, hj]; exact hjam⟩
  | busy =>
    have hne : l.quietCount ≠ 24 := fun e => by simpa [hs] using hquiet.mpr e
    have hcount := foldl_hear_quietCount halves l hs hne
    have hbelow : (halves.foldl LineInterface.hear l).quietCount ≠ 24 := by
      intro e
      rw [e] at hcount
      have : (24 : Fin 25).val = 24 := rfl
      omega
    exact ⟨by simp [hstatus, hs, hbelow], by simp [hstatus, hs]⟩

theorem CountsCoherent.below {l : LineInterface} (h : CountsCoherent l) : CountBelow l := fun hbusy e => by
  simpa [hbusy] using h.1.mpr e

/-- Halves up to the end of these reach the counts, the number of decided halves and the window only. -/
@[simp] theorem hearUpTo_frame (l : LineInterface) (halves : List Bool) :
    (l.hearUpTo halves).receiver = l.receiver ∧ (l.hearUpTo halves).status = l.status ∧
    (l.hearUpTo halves).windows = l.windows ∧ (l.hearUpTo halves).windowPart = 0 ∧
    (l.hearUpTo halves).decided = l.decided + (halves.length - l.decided) := by
  simp [LineInterface.hearUpTo]

theorem hearUpTo_countsCoherent (halves : List Bool) {l : LineInterface} (h : CountsCoherent l) :
    CountsCoherent (l.hearUpTo halves) :=
  foldl_hear_countsCoherent _ h

/-- Halves on LRX reach the counts, the number of decided halves and the window of the line only. -/
@[simp] theorem hearPins_line (n : Nat) (s : State) :
    (hearPins n s).line.receiver = s.line.receiver ∧ (hearPins n s).line.status = s.line.status ∧
    (hearPins n s).line.windows = s.line.windows ∧ (hearPins n s).line.windowPart = 0 := by
  simp [hearPins]

theorem hearPins_countsCoherent (n : Nat) {s : State} (h : CountsCoherent s.line) : CountsCoherent (hearPins n s).line :=
  foldl_hear_countsCoherent _ h

@[simp] theorem toReceiver_line (r : RxState) (s : State) : (toReceiver r s).line = { s.line with receiver := r } := rfl

/-! ### The agreement of line, ladder, attempt and membership -/

/-- The line has the agreement of `LineCoherent` but for the clause on LOADING. -/
structure LineAgrees (l : LineInterface) (a : AccessController) : Prop where
  wait : l.receiver = .wait → l.status = .busy
  frame : l.receiver = .frame → l.status = .busy
  idle : l.receiver = .idle → l.status = .quiet
  markDecided : l.receiver = .mark → l.decided = if l.status = .busy then 1 else 0
  frameDecided : l.receiver = .frame → l.decided = 8
  transmit : l.receiver = .transmit ↔ a.attempt.isSome
  ladder : a.ladder.isSome → l.status = .quiet ∧ a.attempt = none
  unheard : a.unheardWait → l.status = .quiet ∧ a.attempt = none ∧ a.ladder = none
  heard : ∀ x ∈ a.attempt, (x.heard ↔ l.status = .busy)
  counts : CountsCoherent l

theorem lineCoherent_iff (s : State) :
    LineCoherent s ↔ (s.line.receiver = .off ↔ s.member.own = .loading) ∧ LineAgrees s.line s.access := by
  constructor
  · rintro ⟨hoff, hwait, hframe, hidle, hmark, hdecided, htransmit, hladder, hunheard, hheard, hquiet, hjam⟩
    exact ⟨hoff, hwait, hframe, hidle, hmark, hdecided, htransmit, hladder, hunheard, hheard, hquiet, hjam⟩
  · rintro ⟨hoff, hwait, hframe, hidle, hmark, hdecided, htransmit, hladder, hunheard, hheard, hquiet, hjam⟩
    exact ⟨hoff, hwait, hframe, hidle, hmark, hdecided, htransmit, hladder, hunheard, hheard, hquiet, hjam⟩

/-- Out of a mark or a frame, or still in WAIT, the line may go to WAIT with any counts that agree. -/
theorem LineAgrees.toWait {l m : LineInterface} {a b : AccessController} (h : LineAgrees l a)
    (hl : l.receiver = .wait ∨ l.receiver = .frame ∨ l.receiver = .mark ∧ l.status = .busy) (hm : m.receiver = .wait)
    (hstatus : m.status = l.status) (hcounts : CountsCoherent m)
    (hattempt : b.attempt = a.attempt) (hladder : b.ladder = a.ladder) (hunheard : b.unheardWait = a.unheardWait) :
    LineAgrees m b := by
  have hbusy : l.status = .busy := by
    rcases hl with h1 | h1 | h1
    · exact h.wait h1
    · exact h.frame h1
    · exact h1.2
  have hnone : a.attempt.isSome = false := by
    rcases hl with h1 | h1 | h1 <;> simpa [h1] using h.transmit
  constructor <;> simp_all [h.ladder, h.unheard]
  · simpa [hbusy] using h.ladder
  · simpa [hbusy] using h.unheard

/-- The two controllers hold the same attempt, ladder and wait after an unheard attempt. -/
def SameAttempt (a b : AccessController) : Prop :=
  b.attempt = a.attempt ∧ b.ladder = a.ladder ∧ b.unheardWait = a.unheardWait

theorem SameAttempt.refl (a : AccessController) : SameAttempt a a := ⟨rfl, rfl, rfl⟩

theorem LineAgrees.congr {l : LineInterface} {a b : AccessController} (h : LineAgrees l a) (hab : SameAttempt a b) :
    LineAgrees l b := by
  obtain ⟨hattempt, hladder, hunheard⟩ := hab
  exact
    { wait := h.wait, frame := h.frame, idle := h.idle, markDecided := h.markDecided, frameDecided := h.frameDecided
      transmit := by rw [hattempt]; exact h.transmit
      ladder := by rw [hattempt, hladder]; exact h.ladder
      unheard := by rw [hattempt, hladder, hunheard]; exact h.unheard
      heard := by rw [hattempt]; exact h.heard
      counts := h.counts }

section SameAttempt

variable (s : State)

theorem leaveWarning_sameAttempt : SameAttempt s.access (leaveWarning s).access := by
  rw [leaveWarning_access]
  split <;> exact ⟨rfl, rfl, rfl⟩

theorem supplyRecovered_sameAttempt : SameAttempt s.access (supplyRecovered s).access := by
  rw [supplyRecovered_access]
  (repeat' split)
  · exact .refl _
  · exact leaveWarning_sameAttempt s
  · rw [enterListen_access]; exact ⟨rfl, rfl, rfl⟩
  · exact .refl _

theorem enterDuplicate_sameAttempt : SameAttempt s.access (enterDuplicate s).access := by
  rw [enterDuplicate_access]
  split <;> exact ⟨rfl, rfl, rfl⟩

theorem departFailed_sameAttempt : SameAttempt s.access (departFailed s).access := by
  simp only [departFailed]
  (repeat' split)
  · exact leaveWarning_sameAttempt s
  · exact ⟨rfl, rfl, rfl⟩
  · exact .refl _

theorem reportSuccess_sameAttempt (b : Body) : SameAttempt s.access (reportSuccess b s).access := by
  cases b with
  | depart => exact ⟨by simp [reportSuccess], by simp [reportSuccess], by simp [reportSuccess]⟩
  | _ => simp [reportSuccess, SameAttempt]

theorem reportFailure_sameAttempt (b : Body) : SameAttempt s.access (reportFailure b s).access := by
  cases b with
  | depart => exact departFailed_sameAttempt s
  | _ => simp [reportFailure, SameAttempt]

end SameAttempt

/-- A frame with the own number sends the line to WAIT, and reaches no ladder and no attempt (R29, R70). -/
theorem takeOwnNumberFrame_line (s : State) :
    (takeOwnNumberFrame s).line = { s.line with receiver := .wait } ∧
    SameAttempt s.access (takeOwnNumberFrame s).access := by
  obtain ⟨hattempt, hladder, hunheard⟩ := enterDuplicate_sameAttempt (rotateTo (ownNumber s) s)
  exact ⟨by simp [takeOwnNumberFrame, rotateTo], hattempt, hladder, hunheard⟩

/-- The end of any frame sends the line to WAIT, and reaches no ladder and no attempt (R29). -/
theorem takeFrame_line {f : Frame} {s : State} (h : s.line.receiver = .frame) :
    (takeFrame f s).line = { s.line.hearUpTo (frameHalves f) with receiver := .wait } ∧
    SameAttempt s.access (takeFrame f s).access := by
  rw [takeFrame, if_neg (not_not_intro h)]
  split
  · simp [frameDamaged, hearFrame, SameAttempt]
  · split
    · exact takeOwnNumberFrame_line (hearFrame f s)
    · simp [takePeerFrame, rotateTo, hearFrame, SameAttempt]

theorem takeFrame_lineAgrees (f : Frame) {s : State} (h : LineAgrees s.line s.access) :
    LineAgrees (takeFrame f s).line (takeFrame f s).access := by
  by_cases hr : s.line.receiver = .frame
  · obtain ⟨hline, hattempt, hladder, hunheard⟩ := takeFrame_line (f := f) hr
    rw [hline]
    exact h.toWait (.inr (.inl hr)) rfl (by simp) (hearUpTo_countsCoherent _ h.counts) hattempt hladder hunheard
  · rw [takeFrame_of_not_frame f hr]
    exact h

/-- The commands that can write the Line Interface, the ladder, the attempt or the wait after one. -/
def touchesLine : Instr → Bool
  | .stationReset _ => true
  | .endOfLoading => true
  | .lineBusy => true
  | .lineQuiet => true
  | .ladderRepeat => true
  | .ladderStartAfterUnheardAttempt => true
  | .slotStart _ => true
  | .ownStartMarkEnd => true
  | .collision _ => true
  | .attemptSuccess => true
  | .attemptFailure => true
  | .jamEvent => true
  | .startOfFrame => true
  | .damagedFrame => true
  | .receivePresence _ _ => true
  | .receiveHello _ _ => true
  | .receiveAnnounce _ _ => true
  | .receiveAckReq _ _ _ => true
  | .receiveResetReq _ _ _ => true
  | .receiveRefreshReq _ _ => true
  | .receiveSilence _ => true
  | .receiveDepart _ => true
  | .receiveOwnNumberFrame => true
  | .firstHighSample => true
  | .spike => true
  | .unframedCarrier => true
  | _ => false

/-- All other commands leave the line and the attempt as they are. -/
theorem exec_line {c : Instr} {s t : State} (h : exec c s = .next t) (hc : touchesLine c = false) :
    t.line = s.line ∧ SameAttempt s.access t.access := by
  cases c with
  | stationReset | endOfLoading | lineBusy | lineQuiet | ladderRepeat | ladderStartAfterUnheardAttempt | slotStart
  | ownStartMarkEnd | collision | attemptSuccess | attemptFailure | jamEvent | startOfFrame | damagedFrame
  | receivePresence | receiveHello | receiveAnnounce | receiveAckReq | receiveResetReq | receiveRefreshReq
  | receiveSilence | receiveDepart | receiveOwnNumberFrame | firstHighSample | spike | unframedCarrier =>
    simp [touchesLine] at hc
  | fieldInputSample =>
    obtain ⟨-, hline, haccess, -⟩ := exec_fieldInputSample_frame h
    exact ⟨hline, haccess ▸ .refl _⟩
  | keySample =>
    obtain ⟨-, -, hline, haccess, -⟩ := exec_keySample_frame h
    exact ⟨hline, haccess ▸ .refl _⟩
  | supplyRecoveryEvent =>
    simp only [exec, execSupplyRecoveryEvent] at h
    split at h <;> obtain rfl := Host.Outcome.next.inj h
    · exact ⟨by simp, supplyRecovered_sameAttempt { s with startup := { s.startup with supplyWarning := false } }⟩
    · exact ⟨rfl, .refl _⟩
  | listenWindowEnd | lostTimerExpiry | supplyWarningEvent =>
    simp only [exec, execListenWindowEnd, execLostTimerExpiry, execSupplyWarningEvent] at h
    split at h <;> cases h <;> simp [SameAttempt]
  | releaseOfReset | cdiSample | presenceTimerExpiry | commonPeriodStart | toneInstant =>
    simp only [exec, execReleaseOfReset, execCdiSample, execPresenceTimerExpiry, execCommonPeriodStart,
      execToneInstant] at h
    split at h <;> cases h <;> exact ⟨rfl, rfl, rfl, rfl⟩

/-! ### What each line command makes of the agreement -/

section LineCommands

variable {s t : State} (hs : LineAgrees s.line s.access)

include hs

theorem exec_lineBusy_lineAgrees (h : exec .lineBusy s = .next t) : LineAgrees t.line t.access := by
  simp only [exec, execLineBusy] at h
  split at h <;> obtain rfl := Host.Outcome.next.inj h
  · next hready =>
    obtain ⟨hquiet, hrx⟩ := hready
    have hmark : s.line.receiver = .mark → s.line.decided = 0 := fun e => by simpa [hquiet] using hs.markDecided e
    have htransmit := hs.transmit
    constructor <;> simp_all [CountsCoherent]
    all_goals rcases hrx with hrx | hrx <;> simp_all
  · exact hs

theorem exec_lineQuiet_lineAgrees (h : exec .lineQuiet s = .next t) : LineAgrees t.line t.access := by
  simp only [exec, execLineQuiet] at h
  split at h <;> obtain rfl := Host.Outcome.next.inj h
  · next hready =>
    obtain ⟨hbusy, hrx⟩ := hready
    have hnone : s.access.attempt = none := by simpa [hrx] using hs.transmit
    have hunheard : s.access.unheardWait = false := by simpa [hbusy] using hs.unheard
    constructor <;> simp_all [CountsCoherent]
  · exact hs

theorem exec_firstHighSample_lineAgrees (h : exec .firstHighSample s = .next t) : LineAgrees t.line t.access := by
  simp only [exec, execFirstHighSample] at h
  split at h <;> obtain rfl := Host.Outcome.next.inj h
  · next hidle =>
    have hquiet := hs.idle hidle
    have hnone : s.access.attempt = none := by simpa [hidle] using hs.transmit
    have hladder := hs.ladder
    have hunheard := hs.unheard
    have hcounts := hs.counts
    constructor <;> simp_all [LineInterface.align, CountsCoherent]
  · exact hs

theorem exec_spike_lineAgrees (h : exec .spike s = .next t) : LineAgrees t.line t.access := by
  simp only [exec, execSpike] at h
  split at h <;> obtain rfl := Host.Outcome.next.inj h
  · next hready =>
    obtain ⟨hmark, hquiet⟩ := hready
    have hnone : s.access.attempt = none := by simpa [hmark] using hs.transmit
    have hladder := hs.ladder
    have hunheard := hs.unheard
    have hcounts := hs.counts
    constructor <;> simp_all [CountsCoherent]
  · exact hs

theorem exec_unframedCarrier_lineAgrees (h : exec .unframedCarrier s = .next t) : LineAgrees t.line t.access := by
  simp only [exec, execUnframedCarrier] at h
  split at h <;> obtain rfl := Host.Outcome.next.inj h
  · next hready =>
    exact hs.toWait (.inr (.inr hready)) (by simp) (by simp) (hearPins_countsCoherent _ hs.counts) (by simp) (by simp)
      (by simp)
  · exact hs

theorem exec_startOfFrame_lineAgrees (h : exec .startOfFrame s = .next t) : LineAgrees t.line t.access := by
  simp only [exec, execStartOfFrame] at h
  split at h <;> obtain rfl := Host.Outcome.next.inj h
  · next hready =>
    obtain ⟨hmark, hbusy⟩ := hready
    have hnone : s.access.attempt = none := by simpa [hmark] using hs.transmit
    have hdecided : s.line.decided = 1 := by simpa [hbusy] using hs.markDecided hmark
    have hladder : s.access.ladder = none := by simpa [hbusy] using hs.ladder
    have hunheard : s.access.unheardWait = false := by simpa [hbusy] using hs.unheard
    have hcounts : CountsCoherent { s.line.hearUpTo startMark with receiver := .frame } :=
      hearUpTo_countsCoherent startMark hs.counts
    constructor <;> simp_all [startMark]
  · exact hs

theorem exec_damagedFrame_lineAgrees (h : exec .damagedFrame s = .next t) : LineAgrees t.line t.access := by
  simp only [exec, execDamagedFrame] at h
  split at h <;> obtain rfl := Host.Outcome.next.inj h
  · next hframe =>
    generalize halvesOfFrame s.pins = heard
    exact hs.toWait (.inr (.inl hframe)) (by simp [frameDamaged]) (by simp [frameDamaged])
      (hearPins_countsCoherent heard hs.counts) (by simp [frameDamaged]) (by simp [frameDamaged]) (by simp [frameDamaged])
  · exact hs

theorem exec_jamEvent_lineAgrees (h : exec .jamEvent s = .next t) : LineAgrees t.line t.access := by
  simp only [exec, execJamEvent] at h
  split at h <;> obtain rfl := Host.Outcome.next.inj h
  · next hready =>
    obtain ⟨hbusy, -, -, hnone⟩ := hready
    have hcounts := hs.counts
    simp only [catchUpFrom_frame]
    constructor
    exacts [hs.wait, hs.frame, hs.idle, hs.markDecided, hs.frameDecided, hs.transmit, hs.ladder, hs.unheard, hs.heard,
      ⟨hcounts.1, fun e => by simp [hbusy] at e⟩]
  · exact hs

theorem exec_receiveOwnNumberFrame_lineAgrees (h : exec .receiveOwnNumberFrame s = .next t) :
    LineAgrees t.line t.access := by
  simp only [exec, execReceiveOwnNumberFrame] at h
  split at h <;> obtain rfl := Host.Outcome.next.inj h
  · next hframe =>
    obtain ⟨hline, hattempt, hladder, hunheard⟩ :=
      takeOwnNumberFrame_line (hearFrame (ownNumberFrame s) (passOwnNumberFrame s))
    have hheard : (hearFrame (ownNumberFrame s) (passOwnNumberFrame s)).line =
        s.line.hearUpTo (frameHalves (ownNumberFrame s)) := by simp [hearFrame]
    rw [hheard] at hline
    simp only [hearFrame_frame, passOwnNumberFrame_frame] at hattempt hladder hunheard
    rw [hline]
    exact hs.toWait (.inr (.inl hframe)) rfl (by simp) (hearUpTo_countsCoherent _ hs.counts) hattempt hladder hunheard
  · exact hs

theorem exec_ladderRepeat_lineAgrees (h : exec .ladderRepeat s = .next t) : LineAgrees t.line t.access := by
  simp only [exec, execLadderRepeat] at h
  (repeat' split at h) <;> cases h
  · next hladder hready =>
    obtain ⟨hquiet, hnone⟩ := hready
    have hunheard : s.access.unheardWait = false := by simpa [hladder] using hs.unheard
    have htransmit := hs.transmit
    have hcounts := hs.counts
    have h1 := hs.wait
    have h2 := hs.frame
    have h3 := hs.markDecided
    constructor <;> simp_all
  · exact hs
  · exact hs

theorem exec_ladderStart_lineAgrees (h : exec .ladderStartAfterUnheardAttempt s = .next t) :
    LineAgrees t.line t.access := by
  simp only [exec, execLadderStartAfterUnheardAttempt] at h
  split at h <;> obtain rfl := Host.Outcome.next.inj h
  · next hready =>
    obtain ⟨-, hquiet, hnone⟩ := hready
    have htransmit := hs.transmit
    have hcounts := hs.counts
    have h1 := hs.wait
    have h2 := hs.frame
    have h3 := hs.markDecided
    constructor <;> simp_all
  · exact hs

end LineCommands

/-! ### The commands of an attempt -/

@[simp] theorem beginAttempt_line (c : Choice) (s : State) :
    (beginAttempt c s).line = s.line.align .ownAttempt .transmit := by
  cases c <;> simp [beginAttempt, markBuild]

@[simp] theorem beginAttempt_access (c : Choice) (s : State) :
    (beginAttempt c s).access =
      { s.access with
        ladder := none
        attempt := some { frame := frameFor c s, phaseSampled := false, heard := false, collision := none } } := by
  cases c <;> simp [beginAttempt, markBuild]

/-- The ladder once the own slot of this class has begun (log entry 11). -/
def slotBegun (cls : FrameClass) (l : Ladder) (s : State) : State :=
  { s with access := { s.access with ladder := some { l with nextSlot := slotNumber cls s + 1 } } }

/-- SLOT_START is not taken, passes its slot, or begins an attempt with the choice of the moment (R44, R46, R47). -/
theorem exec_slotStart_cases {cls : FrameClass} {s t : State} (h : exec (.slotStart cls) s = .next t) :
    t = s ∨ ∃ l, s.access.ladder = some l ∧ (t = slotBegun cls l s ∨
      ∃ c, mayTransmit s = true ∧ choice s = some c ∧ t = beginAttempt c (slotBegun cls l s)) := by
  simp only [exec, execSlotStart] at h
  split at h
  · next l hl =>
    split at h
    · split at h
      · next hmay =>
        obtain rfl := Host.Outcome.next.inj h
        unfold takeSlot
        split
        · next c hchoice =>
          split
          · exact .inr ⟨l, hl, .inr ⟨c, hmay, hchoice, rfl⟩⟩
          · exact .inr ⟨l, hl, .inl rfl⟩
        · exact .inr ⟨l, hl, .inl rfl⟩
      · exact .inr ⟨l, hl, .inl (Host.Outcome.next.inj h).symm⟩
    · exact .inl (Host.Outcome.next.inj h).symm
  · exact .inl (Host.Outcome.next.inj h).symm

/-- The state that ATTEMPT_SUCCESS leaves where it is taken (R52). -/
def succeeded (a : Attempt) (s : State) : State :=
  noteHorn (catchUpAfter a.frame.body
    (refreshIf s.access.lineFault (reportSuccess a.frame.body (successSteps a.frame s))))

/-- The state that ATTEMPT_FAILURE leaves where it is taken (R53). -/
def failed (a : Attempt) (s : State) : State :=
  noteHorn (catchUpFailed s a.frame.body (reportFailure a.frame.body (failureSteps a s)))

theorem exec_attemptSuccess_taken {a : Attempt} {s : State} (ha : s.access.attempt = some a) (hc : a.collision = none)
    (hp : a.phaseSampled = true) (hh : a.heard = true) : exec .attemptSuccess s = .next (succeeded a s) := by
  simp only [exec, execAttemptSuccess, ha]
  exact if_pos ⟨hc, hp, hh⟩

theorem exec_attemptFailure_taken {a : Attempt} {s : State} (ha : s.access.attempt = some a) (hc : a.collision ≠ none) :
    exec .attemptFailure s = .next (failed a s) := by
  simp only [exec, execAttemptFailure, ha]
  exact if_pos hc

theorem exec_attemptSuccess_cases {s t : State} (h : exec .attemptSuccess s = .next t) :
    t = s ∨ ∃ a, s.access.attempt = some a ∧ a.collision = none ∧ a.phaseSampled = true ∧ a.heard = true ∧
      t = succeeded a s := by
  simp only [exec, execAttemptSuccess] at h
  split at h
  · next a ha =>
    split at h
    · next hready =>
      obtain ⟨hc, hp, hh⟩ := hready
      exact .inr ⟨a, ha, hc, hp, hh, (Host.Outcome.next.inj h).symm⟩
    · exact .inl (Host.Outcome.next.inj h).symm
  · exact .inl (Host.Outcome.next.inj h).symm

theorem exec_attemptFailure_cases {s t : State} (h : exec .attemptFailure s = .next t) :
    t = s ∨ ∃ a, s.access.attempt = some a ∧ a.collision ≠ none ∧ t = failed a s := by
  simp only [exec, execAttemptFailure] at h
  split at h
  · next a ha =>
    split at h
    · next hc => exact .inr ⟨a, ha, hc, (Host.Outcome.next.inj h).symm⟩
    · exact .inl (Host.Outcome.next.inj h).symm
  · exact .inl (Host.Outcome.next.inj h).symm

/-- OWN_START_MARK_END and COLLISION write marks of the attempt and its phase fields, and the line hears what was sent. -/
theorem exec_ownStartMarkEnd_cases {s t : State} (h : exec .ownStartMarkEnd s = .next t) :
    t = s ∨ ∃ a, s.access.attempt = some a ∧ a.phaseSampled = false ∧
      (a.collision = none ∨ a.collision = some startMark.length) ∧
      t = { s with
            line := s.line.hearUpTo startMark
            access := { s.access with
                        attempt := some { a with frame := withPhase s.time.wheel a.frame, phaseSampled := true } } } := by
  simp only [exec, execOwnStartMarkEnd] at h
  split at h
  · next a ha =>
    split at h
    · next hready => exact .inr ⟨a, ha, hready.1, hready.2, (Host.Outcome.next.inj h).symm⟩
    · exact .inl (Host.Outcome.next.inj h).symm
  · exact .inl (Host.Outcome.next.inj h).symm

theorem exec_collision_cases {half : Nat} {s t : State} (h : exec (.collision half) s = .next t) :
    t = s ∨ ∃ a, s.access.attempt = some a ∧ a.collision = none ∧
      t = { s with
            line := if endsOwnMark a half s then s.line.putRight else s.line.hearUpTo (heardToCollision a.frame half)
            access := { s.access with attempt := some { a with collision := some half } } } := by
  simp only [exec, execCollision] at h
  split at h
  · next a ha =>
    split at h
    · next hready => exact .inr ⟨a, ha, hready.1, (Host.Outcome.next.inj h).symm⟩
    · exact .inl (Host.Outcome.next.inj h).symm
  · exact .inl (Host.Outcome.next.inj h).symm

theorem succeeded_line (a : Attempt) (s : State) :
    (succeeded a s).line = { s.line.hearUpTo (frameHalves a.frame) with receiver := .wait } := by
  simp [succeeded, successSteps]

theorem succeeded_sameAttempt (a : Attempt) (s : State) :
    SameAttempt { s.access with attempt := none } (succeeded a s).access := by
  obtain ⟨h1, h2, h3⟩ := reportSuccess_sameAttempt (successSteps a.frame s) a.frame.body
  simp only [SameAttempt, succeeded, noteHorn_frame, catchUpAfter_frame, refreshIf_frame, h1, h2, h3]
  exact ⟨rfl, rfl, rfl⟩

theorem failed_line (a : Attempt) (s : State) :
    (failed a s).line =
      { (hearPins (halvesOfFailure a s.line.decided) s).line with receiver := if a.heard then .wait else .idle } := by
  simp only [failed, noteHorn_frame, catchUpFailed_frame, reportFailure_frame]
  rfl

theorem failed_sameAttempt (a : Attempt) (s : State) :
    SameAttempt { s.access with attempt := none, unheardWait := !a.heard } (failed a s).access := by
  obtain ⟨h1, h2, h3⟩ := reportFailure_sameAttempt (failureSteps a s) a.frame.body
  simp only [SameAttempt, failed, noteHorn_frame, catchUpFailed_frame, h1, h2, h3]
  exact ⟨by simp [failureSteps], by simp [failureSteps], by simp [failureSteps]⟩

/-- A carrier half put right keeps the counts in agreement. -/
theorem putRight_countsCoherent {l : LineInterface} (h : CountsCoherent l) : CountsCoherent l.putRight := by
  unfold LineInterface.putRight
  split
  · exact h
  · next hbusy => exact ⟨by simp [hbusy], fun e => absurd e hbusy⟩

section AttemptCommands

variable {s t : State} (hs : LineAgrees s.line s.access)

include hs

/-- While an attempt is in progress no ladder and no wait runs, and the receiver is in TRANSMIT. -/
theorem lineAgrees_of_attempt {a : Attempt} (ha : s.access.attempt = some a) :
    s.line.receiver = .transmit ∧ s.access.ladder = none ∧ s.access.unheardWait = false := by
  refine ⟨hs.transmit.mpr (by simp [ha]), ?_, ?_⟩
  · simpa [ha] using hs.ladder
  · simpa [ha] using hs.unheard

theorem exec_slotStart_lineAgrees {cls : FrameClass} (h : exec (.slotStart cls) s = .next t) :
    LineAgrees t.line t.access := by
  rcases exec_slotStart_cases h with rfl | ⟨l, hl, hcase⟩
  · exact hs
  obtain ⟨hquiet, hnone⟩ := hs.ladder (by simp [hl])
  have hunheard : s.access.unheardWait = false := by simpa [hl] using hs.unheard
  have htransmit := hs.transmit
  have hcounts := hs.counts
  rcases hcase with rfl | ⟨c, -, -, rfl⟩
  · have h1 := hs.wait
    have h2 := hs.frame
    have h3 := hs.markDecided
    constructor <;> simp_all [slotBegun]
  · simp only [beginAttempt_line, beginAttempt_access]
    constructor <;> simp_all [slotBegun, LineInterface.align, CountsCoherent]

theorem exec_ownStartMarkEnd_lineAgrees (h : exec .ownStartMarkEnd s = .next t) : LineAgrees t.line t.access := by
  rcases exec_ownStartMarkEnd_cases h with rfl | ⟨a, ha, -, -, rfl⟩
  · exact hs
  obtain ⟨hrx, hladder, hunheard⟩ := lineAgrees_of_attempt hs ha
  have hheard := hs.heard a ha
  have hcounts := hearUpTo_countsCoherent startMark hs.counts
  constructor <;> simp_all

theorem exec_collision_lineAgrees {half : Nat} (h : exec (.collision half) s = .next t) : LineAgrees t.line t.access := by
  rcases exec_collision_cases h with rfl | ⟨a, ha, -, rfl⟩
  · exact hs
  obtain ⟨hrx, hladder, hunheard⟩ := lineAgrees_of_attempt hs ha
  have hheard := hs.heard a ha
  have hright := putRight_countsCoherent hs.counts
  have hcounts := hearUpTo_countsCoherent (heardToCollision a.frame half) hs.counts
  dsimp only
  split <;> constructor <;> simp_all

theorem exec_attemptSuccess_lineAgrees (h : exec .attemptSuccess s = .next t) : LineAgrees t.line t.access := by
  rcases exec_attemptSuccess_cases h with rfl | ⟨a, ha, -, -, hh, rfl⟩
  · exact hs
  obtain ⟨hrx, hladder, hunheard⟩ := lineAgrees_of_attempt hs ha
  have hbusy := (hs.heard a ha).mp hh
  have hcounts := hearUpTo_countsCoherent (frameHalves a.frame) hs.counts
  rw [succeeded_line]
  refine LineAgrees.congr ?_ (succeeded_sameAttempt a s)
  constructor <;> simp_all [CountsCoherent]

theorem exec_attemptFailure_lineAgrees (h : exec .attemptFailure s = .next t) : LineAgrees t.line t.access := by
  rcases exec_attemptFailure_cases h with rfl | ⟨a, ha, -, rfl⟩
  · exact hs
  obtain ⟨hrx, hladder, hunheard⟩ := lineAgrees_of_attempt hs ha
  have hheard := hs.heard a ha
  have hcounts := hearPins_countsCoherent (halvesOfFailure a s.line.decided) hs.counts
  rw [failed_line]
  refine LineAgrees.congr ?_ (failed_sameAttempt a s)
  cases hh : a.heard with
  | true =>
    have hbusy := hheard.mp hh
    constructor <;> simp_all [CountsCoherent]
  | false =>
    have hquiet : s.line.status = .quiet := by
      cases hst : s.line.status with
      | quiet => rfl
      | busy => rw [hheard.mpr hst] at hh; exact absurd hh (by decide)
    constructor <;> simp_all [CountsCoherent]

end AttemptCommands

end Sys2Proof.Machine
end

section
/-! PROOFS. The permission to transmit: the agreement of line, attempt and membership that every step keeps (O53). -/

namespace Sys2Proof.Machine

open Sys2Proof.Safety

/-- The line at the start of line processing agrees with an Access Controller at rest (Table 28). -/
theorem lineAgrees_start {a : AccessController} (h : a.attempt = none) (hladder : a.ladder = none)
    (hunheard : a.unheardWait = false) : LineAgrees .start a := by
  constructor <;> simp [LineInterface.start, CountsCoherent, h, hladder, hunheard]

/-- Every command outside LOADING keeps the agreement of line, ladder and attempt. -/
theorem exec_lineAgrees {c : Instr} {s t : State} (h : exec c s = .next t) (hc : ∀ cause, c ≠ .stationReset cause)
    (hload : s.member.own ≠ .loading) (hs : LineAgrees s.line s.access) : LineAgrees t.line t.access := by
  cases c with
  | stationReset cause => exact absurd rfl (hc cause)
  | endOfLoading => rw [exec_endOfLoading_not h (by simp [loading, hload])]; exact hs
  | lineBusy => exact exec_lineBusy_lineAgrees hs h
  | lineQuiet => exact exec_lineQuiet_lineAgrees hs h
  | ladderRepeat => exact exec_ladderRepeat_lineAgrees hs h
  | ladderStartAfterUnheardAttempt => exact exec_ladderStart_lineAgrees hs h
  | slotStart cls => exact exec_slotStart_lineAgrees hs h
  | ownStartMarkEnd => exact exec_ownStartMarkEnd_lineAgrees hs h
  | collision half => exact exec_collision_lineAgrees hs h
  | attemptSuccess => exact exec_attemptSuccess_lineAgrees hs h
  | attemptFailure => exact exec_attemptFailure_lineAgrees hs h
  | jamEvent => exact exec_jamEvent_lineAgrees hs h
  | startOfFrame => exact exec_startOfFrame_lineAgrees hs h
  | damagedFrame => exact exec_damagedFrame_lineAgrees hs h
  | receivePresence | receiveHello | receiveAnnounce | receiveAckReq | receiveResetReq | receiveRefreshReq
  | receiveSilence | receiveDepart =>
    cases h
    exact takeFrame_lineAgrees _ hs
  | receiveOwnNumberFrame => exact exec_receiveOwnNumberFrame_lineAgrees hs h
  | firstHighSample => exact exec_firstHighSample_lineAgrees hs h
  | spike => exact exec_spike_lineAgrees hs h
  | unframedCarrier => exact exec_unframedCarrier_lineAgrees hs h
  | _ =>
    obtain ⟨hline, hattempt⟩ := exec_line h rfl
    rw [hline]
    exact hs.congr hattempt

/-- No command but a station reset stops the receiver (R29). -/
theorem exec_receiver_ne_off {c : Instr} {s t : State} (h : exec c s = .next t) (hc : ∀ cause, c ≠ .stationReset cause)
    (hs : s.line.receiver ≠ .off) : t.line.receiver ≠ .off := by
  cases c with
  | stationReset cause => exact absurd rfl (hc cause)
  | slotStart cls =>
    rcases exec_slotStart_cases h with rfl | ⟨l, -, rfl | ⟨c, -, -, rfl⟩⟩
    · exact hs
    · exact hs
    · simp [LineInterface.align]
  | ownStartMarkEnd =>
    rcases exec_ownStartMarkEnd_cases h with rfl | ⟨a, -, -, -, rfl⟩
    · exact hs
    · simpa using hs
  | collision half =>
    rcases exec_collision_cases h with rfl | ⟨a, -, -, rfl⟩
    · exact hs
    · dsimp only; split <;> simpa using hs
  | attemptSuccess =>
    rcases exec_attemptSuccess_cases h with rfl | ⟨a, -, -, -, -, rfl⟩
    · exact hs
    · simp [succeeded_line]
  | attemptFailure =>
    rcases exec_attemptFailure_cases h with rfl | ⟨a, -, -, rfl⟩
    · exact hs
    · rw [failed_line]; dsimp only; split <;> simp
  | receivePresence | receiveHello | receiveAnnounce | receiveAckReq | receiveResetReq | receiveRefreshReq
  | receiveSilence | receiveDepart =>
    obtain rfl := Host.Outcome.next.inj h
    by_cases hr : s.line.receiver = .frame
    · rw [(takeFrame_line hr).1]; simp
    · rw [takeFrame_of_not_frame _ hr]; exact hs
  | receiveOwnNumberFrame =>
    simp only [exec, execReceiveOwnNumberFrame] at h
    split at h <;> obtain rfl := Host.Outcome.next.inj h
    · rw [(takeOwnNumberFrame_line _).1]; simp
    · exact hs
  | endOfLoading | lineBusy | lineQuiet | ladderRepeat | ladderStartAfterUnheardAttempt | jamEvent | startOfFrame
  | damagedFrame | firstHighSample | spike | unframedCarrier =>
    simp only [exec, execEndOfLoading, execLineBusy, execLineQuiet, execLadderRepeat,
      execLadderStartAfterUnheardAttempt, execJamEvent, execStartOfFrame, execDamagedFrame, execFirstHighSample,
      execSpike, execUnframedCarrier] at h
    (repeat' split at h) <;> cases h <;> simp_all [frameDamaged, LineInterface.align, LineInterface.start]
  | _ => rw [(exec_line h rfl).1]; exact hs

/-! ### The membership side -/

/-- The attempt in progress, if there is one, sends a DEPART. -/
def SendsDepart (a : Option Attempt) : Prop := ∃ x, a = some x ∧ x.frame.body = .depart

theorem departInFlight_iff (s : State) : departInFlight s = true ↔ SendsDepart s.access.attempt := by
  unfold departInFlight SendsDepart
  cases s.access.attempt <;> simp

theorem mayTransmit_iff (s : State) :
    mayTransmit s = true ↔ s.member.own = .group ∨ s.member.own = .solo ∨ s.member.own = .warning := by
  unfold mayTransmit
  cases s.member.own <;> simp

/-- The marks of the Membership Controller agree with the own state and the attempt in progress (R44, R61 to R70). -/
structure MemberAgrees (m : MembershipController) (a : Option Attempt) : Prop where
  listen : m.listenTimer.running ↔ m.own = .listen
  pending : m.departPending ↔ m.own = .warning
  returnState : m.returnState.isSome ↔ m.own = .warning
  failures : m.own = .warning → m.departFailures.val < 4
  held : m.heldRecovery → m.own = .warning ∧ SendsDepart a
  hello : m.helloQueued → m.own = .group ∨ m.own = .solo ∨ m.own = .warning
  toListen : m.own = .warning → m.returnState = some .listen → a.isSome → SendsDepart a
  permitted : a.isSome → m.own = .group ∨ m.own = .solo ∨ m.own = .warning

theorem memberAgrees_iff (s : State) :
    MemberAgrees s.member s.access.attempt ↔ MembershipCoherent s ∧ ReturnToListen s ∧ AttemptPermitted s := by
  constructor
  · rintro ⟨h1, h2, h3, h4, h5, h6, h7, h8⟩
    exact ⟨⟨h1, h2, h3, h4, fun e => ⟨(h5 e).1, (departInFlight_iff s).mpr (h5 e).2⟩, h6⟩,
      fun e1 e2 e3 => (departInFlight_iff s).mpr (h7 e1 e2 e3), fun e => (mayTransmit_iff s).mpr (h8 e)⟩
  · rintro ⟨⟨h1, h2, h3, h4, h5, h6⟩, h7, h8⟩
    exact ⟨h1, h2, h3, h4, fun e => ⟨(h5 e).1, (departInFlight_iff s).mp (h5 e).2⟩, h6,
      fun e1 e2 e3 => (departInFlight_iff s).mp (h7 e1 e2 e3), fun e => (mayTransmit_iff s).mp (h8 e)⟩

section MemberAgrees

variable {m : MembershipController} {a : Option Attempt}

/-- Only the body of the attempt counts for the agreement. -/
theorem MemberAgrees.congr {b : Option Attempt} (h : MemberAgrees m a) (hb : b.map (·.frame.body) = a.map (·.frame.body)) :
    MemberAgrees m b := by
  have hsome : b.isSome = a.isSome := by simpa using congrArg Option.isSome hb
  have hdepart : SendsDepart a → SendsDepart b := by
    rintro ⟨x, rfl, hx⟩
    obtain ⟨y, rfl, hy⟩ := Option.map_eq_some_iff.mp hb
    exact ⟨y, rfl, hy.trans hx⟩
  exact
    { listen := h.listen, pending := h.pending, returnState := h.returnState, failures := h.failures, hello := h.hello
      held := fun e => ⟨(h.held e).1, hdepart (h.held e).2⟩
      toListen := fun e1 e2 e3 => hdepart (h.toListen e1 e2 (hsome ▸ e3))
      permitted := fun e => h.permitted (hsome ▸ e) }

/-- GROUP and SOLO may be exchanged (R65). -/
theorem MemberAgrees.follow (h : MemberAgrees m a) (hown : m.own = .group ∨ m.own = .solo) {own : Membership}
    (hnew : own = .group ∨ own = .solo) : MemberAgrees { m with own := own } a := by
  obtain ⟨h1, h2, h3, h4, h5, h6, h7, h8⟩ := h
  constructor <;> rcases hown with e | e <;> rcases hnew with rfl | rfl <;> simp_all

end MemberAgrees

/-- The presence rule gives GROUP or SOLO (R65). -/
theorem presenceRule_joined (s : State) : presenceRule s = .group ∨ presenceRule s = .solo := by
  rcases presenceRule_cases s with ⟨h, -⟩ | ⟨h, -⟩
  · exact .inl h
  · exact .inr h

section Entries

variable {s : State} {a : Option Attempt}

theorem enterListen_memberAgrees (s : State) : MemberAgrees (enterListen s).member none := by
  rw [enterListen_member]
  split <;> constructor <;> simp [Timer.started, Timer.stopped]

theorem enterDeparted_memberAgrees (h : s.member.listenTimer.running = false) :
    MemberAgrees (enterDeparted s).member none := by
  rw [enterDeparted_member]
  constructor <;> simp [h]

/-- A withdrawn DEPART leaves WARNING, for LISTEN only where nothing else is in flight (R68). -/
theorem leaveWarning_memberAgrees (hs : MemberAgrees s.member a) (hown : s.member.own = .warning)
    (ha : s.member.returnState = some .listen → a = none) : MemberAgrees (leaveWarning s).member a := by
  rw [leaveWarning_member]
  split
  · next hreturn => rw [ha hreturn]; exact enterListen_memberAgrees s
  · have hlisten := hs.listen
    rcases presenceRule_joined s with hrule | hrule <;> constructor <;> simp_all

/-- A supply-warning event (R66, R68). -/
theorem supplyWarned_memberAgrees (hs : MemberAgrees s.member a) : MemberAgrees (supplyWarned s).member a := by
  rw [supplyWarned_member]
  split
  · next hown =>
    rw [enterWarning_member]
    obtain ⟨h1, h2, h3, h4, h5, h6, h7, h8⟩ := hs
    constructor <;> rcases hown with e | e | e <;> simp_all [Timer.stopped]
  · split
    · obtain ⟨h1, h2, h3, h4, h5, h6, h7, h8⟩ := hs
      constructor <;> simp_all
    · exact hs

/-- A supply-recovery event with SUPPLY WARNING cleared (R68). -/
theorem supplyRecovered_memberAgrees (hs : MemberAgrees s.member s.access.attempt) :
    MemberAgrees (supplyRecovered s).member s.access.attempt := by
  rw [supplyRecovered_member]
  split
  · next hown =>
    split
    · next hflight =>
      have hdepart := (departInFlight_iff s).mp hflight
      obtain ⟨h1, h2, h3, h4, h5, h6, h7, h8⟩ := hs
      constructor <;> simp_all
    · next hflight =>
      refine leaveWarning_memberAgrees hs hown fun hreturn => ?_
      by_contra hsome
      exact hflight ((departInFlight_iff s).mpr (hs.toListen hown hreturn (Option.isSome_iff_ne_none.mpr hsome)))
  · split
    · next hdeparted =>
      have hnone : s.access.attempt = none := by
        by_contra hsome
        simpa [hdeparted] using hs.permitted (Option.isSome_iff_ne_none.mpr hsome)
      rw [hnone]
      exact enterListen_memberAgrees s
    · exact hs

/-- An entry to DUPLICATE with no attempt in progress (R70). -/
theorem enterDuplicate_memberAgrees (hs : MemberAgrees s.member none) : MemberAgrees (enterDuplicate s).member none := by
  rw [enterDuplicate_member]
  split
  · exact hs
  · constructor <;> simp [Timer.stopped]

/-- A peer's frame moves the own state between GROUP and SOLO only (R65). -/
theorem peerHeard_memberAgrees (h : Header) (kind : FrameKind) (hs : MemberAgrees s.member a) :
    MemberAgrees (peerHeard h kind s).member a := by
  rw [peerHeard_member]
  split
  · next hown => exact hs.follow hown.2 (presenceRule_joined _)
  · exact hs

theorem lostPresence_memberAgrees (p : StationNo) (hs : MemberAgrees s.member a) :
    MemberAgrees (lostPresence p s).member a := by
  rw [lostPresence_member]
  split
  · next hown => exact hs.follow hown (presenceRule_joined _)
  · exact hs

/-- The end of a listen window (R63). -/
theorem joined_memberAgrees (hs : MemberAgrees s.member a) (hown : s.member.own = .listen) :
    MemberAgrees { s.member with own := presenceRule s, helloQueued := true, listenTimer := .stopped } a := by
  obtain ⟨h1, h2, h3, h4, h5, h6, h7, h8⟩ := hs
  rcases presenceRule_joined s with hrule | hrule <;> constructor <;> simp_all [Timer.stopped]

end Entries

/-! The outcomes of an attempt. -/

section Outcomes

variable {s : State} {x : Attempt} (hs : MemberAgrees s.member (some x))

include hs

/-- Without an attempt the agreement stands where no recovery is held, as it is with any frame but a DEPART. -/
theorem memberAgrees_none (hbody : x.frame.body ≠ .depart) : MemberAgrees s.member none := by
  have hnot : ¬SendsDepart (some x) := by rintro ⟨y, hy, hdepart⟩; cases hy; exact hbody hdepart
  obtain ⟨h1, h2, h3, h4, h5, h6, h7, h8⟩ := hs
  exact ⟨h1, h2, h3, h4, fun e => absurd (h5 e).2 hnot, h6, by simp, by simp⟩

theorem listenTimer_of_attempt : s.member.listenTimer.running = false := by
  have hlisten := hs.listen
  rcases hs.permitted rfl with h | h | h <;> simpa [h] using hlisten

theorem departSucceeded_memberAgrees : MemberAgrees (departSucceeded s).member none := by
  rw [departSucceeded_member]
  split
  · exact enterListen_memberAgrees _
  · exact enterDeparted_memberAgrees (listenTimer_of_attempt hs)

theorem departFailed_memberAgrees : MemberAgrees (departFailed s).member none := by
  simp only [departFailed]
  split
  · next hheld =>
    have hown := (hs.held hheld).1
    obtain ⟨h1, h2, h3, h4, h5, h6, h7, h8⟩ := hs
    rw [leaveWarning_member]
    split
    · exact enterListen_memberAgrees s
    · rcases presenceRule_joined s with hrule | hrule <;> constructor <;> simp_all
  · next hheld =>
    split
    · have hstopped := listenTimer_of_attempt hs
      exact enterDeparted_memberAgrees hstopped
    · next hfour =>
      obtain ⟨h1, h2, h3, h4, h5, h6, h7, h8⟩ := hs
      exact ⟨h1, h2, h3, fun e => by simp only [Fin.val_ofNat]; omega, fun e => absurd e hheld, h6, by simp, by simp⟩

theorem reportSuccess_memberAgrees : MemberAgrees (reportSuccess x.frame.body s).member none := by
  by_cases hdepart : x.frame.body = .depart
  · rw [hdepart]
    exact departSucceeded_memberAgrees hs
  have hnone := memberAgrees_none hs hdepart
  cases hb : x.frame.body with
  | depart => exact absurd hb hdepart
  | hello m => exact { hnone with hello := by simp [reportSuccess, helloSucceeded, fullRefresh] }
  | _ => simpa [reportSuccess] using hnone

theorem reportFailure_memberAgrees : MemberAgrees (reportFailure x.frame.body s).member none := by
  by_cases hdepart : x.frame.body = .depart
  · rw [hdepart]
    exact departFailed_memberAgrees hs
  have hnone := memberAgrees_none hs hdepart
  cases hb : x.frame.body with
  | depart => exact absurd hb hdepart
  | _ => exact hnone

end Outcomes

/-- A frame in FRAME finds no attempt in progress. -/
theorem attempt_none_of_frame {s : State} (hl : LineAgrees s.line s.access) (h : s.line.receiver = .frame) :
    s.access.attempt = none := by
  simpa [h] using hl.transmit

theorem takeOwnNumberFrame_memberAgrees {s : State} (hs : MemberAgrees s.member none) :
    MemberAgrees (takeOwnNumberFrame s).member none :=
  enterDuplicate_memberAgrees (by simpa using hs)

theorem takeFrame_memberAgrees (f : Frame) {s : State} (hl : LineAgrees s.line s.access)
    (hs : MemberAgrees s.member s.access.attempt) :
    MemberAgrees (takeFrame f s).member (takeFrame f s).access.attempt := by
  by_cases hr : s.line.receiver = .frame
  · have hnone := attempt_none_of_frame hl hr
    rw [(takeFrame_line hr).2.1, hnone]
    rw [hnone] at hs
    rw [takeFrame, if_neg (not_not_intro hr)]
    split
    · simpa using hs
    · split
      · exact takeOwnNumberFrame_memberAgrees (by simpa using hs)
      · rw [takePeerFrame_member]
        exact peerHeard_memberAgrees _ _ (by simpa using hs)
  · rw [takeFrame_of_not_frame f hr]
    exact hs

/-- A slot taken in WARNING with the return state LISTEN sends the DEPART, which is pending there (R47, R66). -/
theorem beginAttempt_memberAgrees {c : Choice} {s : State} (hmay : mayTransmit s = true) (hchoice : choice s = some c)
    (hnone : s.access.attempt = none) (hs : MemberAgrees s.member s.access.attempt) (x : Attempt)
    (hx : x.frame.body = bodyFor c s) : MemberAgrees s.member (some x) := by
  rw [hnone] at hs
  obtain ⟨h1, h2, h3, h4, h5, h6, h7, h8⟩ := hs
  have hnot : ¬SendsDepart none := fun ⟨y, hy, _⟩ => by cases hy
  refine ⟨h1, h2, h3, h4, fun e => absurd (h5 e).2 hnot, h6, fun hown _ _ => ⟨x, rfl, ?_⟩,
    fun _ => (mayTransmit_iff s).mp hmay⟩
  have hdepart : choice s = some .depart := if_pos (h2.mpr hown)
  rw [hdepart] at hchoice
  cases hchoice
  exact hx

/-- Every command outside LOADING keeps the agreement of membership and attempt. -/
theorem exec_memberAgrees {c : Instr} {s t : State} (h : exec c s = .next t) (hc : ∀ cause, c ≠ .stationReset cause)
    (hload : s.member.own ≠ .loading) (hl : LineAgrees s.line s.access)
    (hs : MemberAgrees s.member s.access.attempt) : MemberAgrees t.member t.access.attempt := by
  cases c with
  | stationReset cause => exact absurd rfl (hc cause)
  | endOfLoading => rw [exec_endOfLoading_not h (by simp [loading, hload])]; exact hs
  | slotStart cls =>
    rcases exec_slotStart_cases h with rfl | ⟨l, hladder, rfl | ⟨c, hmay, hchoice, rfl⟩⟩
    · exact hs
    · exact hs
    · simp only [beginAttempt_frame, beginAttempt_access]
      exact beginAttempt_memberAgrees hmay hchoice (hl.ladder (by simp [hladder])).2 hs _ rfl
  | ownStartMarkEnd =>
    rcases exec_ownStartMarkEnd_cases h with rfl | ⟨a, ha, -, -, rfl⟩
    · exact hs
    · exact hs.congr (by simp [ha, withPhase])
  | collision half =>
    rcases exec_collision_cases h with rfl | ⟨a, ha, -, rfl⟩
    · exact hs
    · exact hs.congr (by simp [ha])
  | attemptSuccess =>
    rcases exec_attemptSuccess_cases h with rfl | ⟨a, ha, -, -, -, rfl⟩
    · exact hs
    · rw [ha] at hs
      rw [(succeeded_sameAttempt a s).1]
      simpa [succeeded] using reportSuccess_memberAgrees (s := successSteps a.frame s) (by simpa using hs)
  | attemptFailure =>
    rcases exec_attemptFailure_cases h with rfl | ⟨a, ha, -, rfl⟩
    · exact hs
    · rw [ha] at hs
      rw [(failed_sameAttempt a s).1]
      simpa [failed] using reportFailure_memberAgrees (s := failureSteps a s) (by simpa using hs)
  | receivePresence | receiveHello | receiveAnnounce | receiveAckReq | receiveResetReq | receiveRefreshReq
  | receiveSilence | receiveDepart =>
    obtain rfl := Host.Outcome.next.inj h
    exact takeFrame_memberAgrees _ hl hs
  | receiveOwnNumberFrame =>
    simp only [exec, execReceiveOwnNumberFrame] at h
    split at h <;> obtain rfl := Host.Outcome.next.inj h
    · next hframe =>
      rw [(takeOwnNumberFrame_line _).2.1]
      simp only [hearFrame_frame, passOwnNumberFrame_frame]
      rw [attempt_none_of_frame hl hframe] at hs ⊢
      exact takeOwnNumberFrame_memberAgrees (by simpa using hs)
    · exact hs
  | listenWindowEnd =>
    simp only [exec, execListenWindowEnd] at h
    split at h <;> obtain rfl := Host.Outcome.next.inj h
    · next hready => simpa using joined_memberAgrees hs hready.1
    · exact hs
  | lostTimerExpiry p =>
    simp only [exec, execLostTimerExpiry] at h
    split at h <;> obtain rfl := Host.Outcome.next.inj h
    · simp only [lostPresence_frame]
      exact lostPresence_memberAgrees p (by exact hs)
    · exact hs
  | supplyWarningEvent =>
    simp only [exec, execSupplyWarningEvent] at h
    split at h <;> obtain rfl := Host.Outcome.next.inj h
    · simp only [supplyWarned_frame]
      exact supplyWarned_memberAgrees (by exact hs)
    · exact hs
  | supplyRecoveryEvent =>
    have hattempt := (exec_line h rfl).2.1
    simp only [exec, execSupplyRecoveryEvent] at h
    split at h <;> obtain rfl := Host.Outcome.next.inj h
    · rw [hattempt]
      exact supplyRecovered_memberAgrees (s := { s with startup := { s.startup with supplyWarning := false } }) hs
    · exact hs
  | lineBusy =>
    simp only [exec, execLineBusy] at h
    split at h <;> obtain rfl := Host.Outcome.next.inj h
    · exact hs.congr (by cases s.access.attempt <;> rfl)
    · exact hs
  | lineQuiet | ladderRepeat | ladderStartAfterUnheardAttempt | jamEvent | startOfFrame | damagedFrame
  | firstHighSample | spike | unframedCarrier =>
    simp only [exec, execLineQuiet, execLadderRepeat, execLadderStartAfterUnheardAttempt, execJamEvent,
      execStartOfFrame, execDamagedFrame, execFirstHighSample, execSpike, execUnframedCarrier] at h
    (repeat' split at h) <;> cases h <;> simpa [frameDamaged] using hs
  | _ =>
    rw [exec_member h rfl, (exec_line h rfl).2.1]
    exact hs

/-! ### LOADING, the tick and the step -/

/-- The whole agreement of receiver, line, ladder, attempt and membership that the permission to transmit rests on. -/
def CarrierAgrees (s : State) : Prop :=
  LoadingQuiescent s ∧ LineCoherent s ∧ MembershipCoherent s ∧ ReturnToListen s ∧ AttemptPermitted s

theorem carrierAgrees_iff (s : State) :
    CarrierAgrees s ↔
      LoadingQuiescent s ∧ (s.line.receiver = .off ↔ s.member.own = .loading) ∧ LineAgrees s.line s.access ∧
        MemberAgrees s.member s.access.attempt := by
  unfold CarrierAgrees
  rw [lineCoherent_iff, ← memberAgrees_iff]
  exact ⟨fun ⟨hq, ⟨hoff, hline⟩, hmember⟩ => ⟨hq, hoff, hline, hmember⟩,
    fun ⟨hq, hoff, hline, hmember⟩ => ⟨hq, ⟨hoff, hline⟩, hmember⟩⟩

/-- The stopped line of LOADING agrees with the Access Controller at its reset values. -/
theorem lineAgrees_reset : LineAgrees .reset .reset := by
  constructor <;> simp [LineInterface.reset, LineInterface.start, AccessController.reset, CountsCoherent]

theorem memberAgrees_reset : MemberAgrees .reset none := by
  constructor <;> simp [MembershipController.reset, Timer.stopped]

/-- In LOADING the agreement is that of the reset values. -/
theorem carrierAgrees_of_loading {s : State} (hq : LoadingQuiescent s) (hload : s.member.own = .loading) :
    CarrierAgrees s := by
  obtain ⟨hline, haccess, hmember, -⟩ := stopped_of_loading hq hload
  rw [carrierAgrees_iff, hline, haccess, hmember]
  exact ⟨hq, by decide, lineAgrees_reset, memberAgrees_reset⟩

/-- The state that END_OF_LOADING leaves where it is taken (R166). -/
def loaded (s : State) : State :=
  enterListen
    { s with
      startup :=
        { s.startup with
          ccs := true, cck := false, image := [], period := (settingsFor s.startup).period
          configFault := imageRefused s.startup }
      points := Vector.ofFn fun i => configure (settingsFor s.startup).points[i] s.points[i]
      line := .start
      panel := { s.panel with tone := (settingsFor s.startup).tone } }

theorem exec_endOfLoading_taken {s : State} (h : (loading s && !inReset s && readOver s.startup) = true) :
    exec .endOfLoading s = .next (loaded s) :=
  if_pos h

/-- In LOADING a command leaves the station there, or it is END_OF_LOADING and starts the station. -/
theorem exec_loading_cases {c : Instr} {s t : State} (h : exec c s = .next t) (hq : LoadingQuiescent s)
    (hload : s.member.own = .loading) : t.member.own = .loading ∨ t = loaded s := by
  by_cases hreset : ∃ cause, c = .stationReset cause
  · obtain ⟨cause, rfl⟩ := hreset
    cases h
    exact .inl rfl
  by_cases he : c = .endOfLoading
  · subst he
    cases hready : (loading s && !inReset s && readOver s.startup) with
    | true =>
      rw [exec_endOfLoading_taken hready] at h
      exact .inr (Host.Outcome.next.inj h).symm
    | false =>
      rw [exec_endOfLoading_not h hready]
      exact .inl hload
  · obtain ⟨ht, -⟩ := exec_stopped (stopped_of_loading hq hload) (fun cause e => hreset ⟨cause, e⟩) he h
    rw [ht]
    exact .inl hload

theorem loaded_carrierAgrees {s : State} (hq : LoadingQuiescent s) (hload : s.member.own = .loading) :
    CarrierAgrees (loaded s) := by
  obtain ⟨-, haccess, -, -⟩ := stopped_of_loading hq hload
  have hne : (loaded s).member.own ≠ .loading := enterListen_ne_loading _
  rw [carrierAgrees_iff]
  refine ⟨loadingQuiescent_of_ne hne, ?_, ?_, ?_⟩
  · simp [loaded, LineInterface.start, enterListen_ne_loading]
  · have hrest : LineAgrees .start (loaded s).access := by
      apply lineAgrees_start <;> simp [loaded, haccess, AccessController.reset]
    simpa [loaded] using hrest
  · have hnone : (loaded s).access.attempt = none := by simp [loaded, haccess, AccessController.reset]
    rw [hnone]
    exact enterListen_memberAgrees _

theorem exec_carrierAgrees {c : Instr} {s t : State} (h : exec c s = .next t) (hs : CarrierAgrees s) :
    CarrierAgrees t := by
  have hq := hs.1
  have hqt := exec_loadingQuiescent h hq
  by_cases hload : s.member.own = .loading
  · rcases exec_loading_cases h hq hload with hstays | rfl
    · exact carrierAgrees_of_loading hqt hstays
    · exact loaded_carrierAgrees hq hload
  by_cases hreset : ∃ cause, c = .stationReset cause
  · obtain ⟨cause, rfl⟩ := hreset
    cases h
    exact carrierAgrees_of_loading hqt rfl
  have hc : ∀ cause, c ≠ .stationReset cause := fun cause e => hreset ⟨cause, e⟩
  obtain ⟨-, hoff, hline, hmember⟩ := (carrierAgrees_iff s).mp hs
  have hne := exec_ne_loading h hc hload
  have hrx := exec_receiver_ne_off h hc (mt hoff.mp hload)
  exact (carrierAgrees_iff t).mpr ⟨hqt, iff_of_false hrx hne, exec_lineAgrees h hc hload hline,
    exec_memberAgrees h hc hload hline hmember⟩

/-- What a tick does to the line in WAIT: it hears halves, and the window moves on. -/
theorem tickLine_line {s : State} (h : s.line.receiver = .wait) :
    (tickLine s).line =
      { (hearPins (halvesOfTick s) s).line with windowPart := Fin.ofNat 32768 (windowAfterTick s) } := by
  simp [tickLine, h]

theorem tickLine_lineAgrees {s : State} (h : LineAgrees s.line s.access) : LineAgrees (tickLine s).line s.access := by
  by_cases hr : s.line.receiver = .wait
  · rw [tickLine_line hr]
    exact h.toWait (.inl hr) (by simpa using hr) (by simp) (hearPins_countsCoherent _ h.counts) rfl rfl rfl
  · rw [tickLine_of_not_wait hr]
    exact h

@[simp] theorem tickLine_receiver (s : State) : (tickLine s).line.receiver = s.line.receiver := by
  by_cases hr : s.line.receiver = .wait
  · rw [tickLine_line hr]; simp
  · rw [tickLine_of_not_wait hr]

@[simp] theorem tickTimer_running (n : Nat) (t : Timer) : (tickTimer n t).running = t.running := by
  unfold tickTimer
  split <;> rfl

theorem tick_carrierAgrees {s : State} (hs : CarrierAgrees s) : CarrierAgrees (tickCounters (tickLine s)) := by
  obtain ⟨hq, hoff, hline, hmember⟩ := (carrierAgrees_iff s).mp hs
  refine (carrierAgrees_iff _).mpr ⟨tick_loadingQuiescent hq, ?_, ?_, ?_⟩
  · simpa [tickCounters] using hoff
  · simpa using (tickLine_lineAgrees hline).congr (b := (tickCounters (tickLine s)).access)
      ⟨by simp [tickCounters], by simp [tickCounters], by simp [tickCounters]⟩
  · simp only [tickCounters, tickLine_frame]
    exact { hmember with listen := by simpa using hmember.listen }

/-- Settles O53: the agreement is one of line and attempt on the one side and of membership and attempt on the other; each
command keeps both, and the permission is a clause of the second. -/
theorem carrierOnlyWherePermitted : Obligations.CarrierOnlyWherePermitted := fun _ _ hs h =>
  step_keeps (Inv := CarrierAgrees) (fun _ _ => id) (fun _ _ _ => exec_carrierAgrees) (fun _ _ => tick_carrierAgrees) hs h

end Sys2Proof.Machine
end

section
/-! PROOFS. The operations on the own points and the Mirror Table, of which every command but four is a run. -/

namespace Sys2Proof.Machine

open Sys2Proof.Safety

/-! ### Steps of the own points and of the Mirror Table -/

/-- One operation on the own records, the Announcement List and the Mirror Table, or a change of other blocks. The build of an
ANNOUNCE, the configuration and the reset are no such step. -/
inductive OwnStep : State → State → Prop
  | stands {s t : State} (points : t.points = s.points) (list : t.list = s.list) (mirror : t.mirror = s.mirror)
      (disagree : t.disagree = s.disagree) (number : ownNumber t = ownNumber s) : OwnStep s t
  | catchUp (s : State) (i : PointIndex) (listed : i ∈ s.list) : OwnStep s (catchUpPoint s i)
  | acknowledge (s : State) (i : PointIndex) (v : Version) : OwnStep s (acknowledge i v s)
  | resetClaim (s : State) (i : PointIndex) (v : Version) : OwnStep s (resetClaim i v s)
  | sample (longest : DebounceClass) (levels : Mask) (s : State) (i : PointIndex) :
      OwnStep s (samplePoint longest levels s i)
  | refresh (s : State) : OwnStep s (fullRefresh s)
  | settle (s : State) (i : PointIndex) : OwnStep s (settlePoint s i)
  | discard (s : State) : OwnStep s (discardSnapshots s)
  | silence (s : State) : OwnStep s (silencePublication s)
  | entry (p : StationNo) (s : State) (e : AnnounceEntry) (peer : p ≠ ownNumber s) :
      OwnStep s { s with mirror := takeEntry p s.mirror e }
  | vacateMasked (p : StationNo) (m : Mask) (s : State) : OwnStep s { s with mirror := vacateMasked p m s.mirror }
  | vacateAll (p : StationNo) (s : State) : OwnStep s { s with mirror := vacateAll p s.mirror }
  | markStale (p : StationNo) (s : State) : OwnStep s { s with mirror := markStale p s.mirror }
  | clearStale (p : StationNo) (s : State) : OwnStep s { s with mirror := clearStale p s.mirror }

/-- A run of such steps. -/
abbrev OwnRun : State → State → Prop := Relation.ReflTransGen OwnStep

/-- What each step keeps, a run keeps. -/
theorem OwnRun.keeps {Inv : State → Prop} (hstep : ∀ s t, OwnStep s t → Inv s → Inv t) {s t : State} (h : OwnRun s t)
    (hs : Inv s) : Inv t := by
  induction h with
  | refl => exact hs
  | tail _ hlast ih => exact hstep _ _ hlast ih

/-- A fold of runs is a run. -/
theorem OwnRun.foldl {β : Type} {f : State → β → State} (P : State → β → Prop) (hf : ∀ s b, P s b → OwnRun s (f s b))
    (hP : ∀ s b x, P s b → P (f s x) b) (l : List β) (s : State) (hl : ∀ b ∈ l, P s b) : OwnRun s (l.foldl f s) := by
  induction l generalizing s with
  | nil => exact .refl
  | cons b l ih =>
    exact (hf s b (hl b List.mem_cons_self)).trans
      (ih (f s b) fun x hx => hP s x b (hl x (List.mem_cons_of_mem b hx)))

/-- A run may begin with a change of other blocks. -/
theorem OwnRun.after {s t u : State} (h : OwnRun t u) (points : t.points = s.points) (list : t.list = s.list)
    (mirror : t.mirror = s.mirror) (disagree : t.disagree = s.disagree) (number : ownNumber t = ownNumber s) : OwnRun s u :=
  h.head (.stands points list mirror disagree number)

section Runs

variable (s : State)

theorem catchUp_ownRun : OwnRun s (catchUp s) :=
  OwnRun.foldl (fun s i => i ∈ s.list) (fun s i hi => .single (.catchUp s i hi)) (fun s i x hi => by simpa using hi)
    s.list s fun _ hi => hi

theorem catchUpFrom_ownRun (before : State) : OwnRun s (catchUpFrom before s) := by
  unfold catchUpFrom
  split
  · exact catchUp_ownRun s
  · exact .refl

theorem stands_ownRun {s t : State} (points : t.points = s.points) (list : t.list = s.list)
    (mirror : t.mirror = s.mirror) (disagree : t.disagree = s.disagree) (number : ownNumber t = ownNumber s) : OwnRun s t :=
  .single (.stands points list mirror disagree number)

theorem enterWarning_ownRun : OwnRun s (enterWarning s) :=
  (catchUpFrom_ownRun _ _).after rfl rfl rfl rfl rfl

theorem supplyWarned_ownRun : OwnRun s (supplyWarned s) := by
  unfold supplyWarned
  split
  · exact enterWarning_ownRun s
  · exact enterWarning_ownRun s
  · exact enterWarning_ownRun s
  · exact stands_ownRun rfl rfl rfl rfl rfl
  · exact .refl
  · exact .refl
  · exact .refl

theorem enterListen_ownRun : OwnRun s (enterListen s) := by
  simp only [enterListen]
  split
  · exact (supplyWarned_ownRun _).after rfl rfl rfl rfl rfl
  · exact stands_ownRun rfl rfl rfl rfl rfl

theorem leaveWarning_ownRun : OwnRun s (leaveWarning s) := by
  unfold leaveWarning
  split
  · exact enterListen_ownRun s
  · exact stands_ownRun rfl rfl rfl rfl rfl

theorem enterDeparted_ownRun : OwnRun s (enterDeparted s) := stands_ownRun rfl rfl rfl rfl rfl

theorem supplyRecovered_ownRun : OwnRun s (supplyRecovered s) := by
  unfold supplyRecovered
  split
  · split
    · exact stands_ownRun rfl rfl rfl rfl rfl
    · exact leaveWarning_ownRun s
  · exact enterListen_ownRun s
  all_goals exact .refl

theorem enterDuplicate_ownRun : OwnRun s (enterDuplicate s) := by
  unfold enterDuplicate
  split
  · exact .refl
  · exact (catchUpFrom_ownRun _ _).after rfl rfl rfl rfl rfl

theorem followPresence_ownRun : OwnRun s (followPresence s) := by
  unfold followPresence
  split
  · exact (catchUpFrom_ownRun _ _).after rfl rfl rfl rfl rfl
  · exact .refl

theorem becamePresent_ownRun (p : StationNo) : OwnRun s (becamePresent p s) :=
  (Relation.ReflTransGen.single (.clearStale p s)).trans (followPresence_ownRun _)

theorem lostPresence_ownRun (p : StationNo) : OwnRun s (lostPresence p s) := by
  have hfollow : OwnRun { s with mirror := markStale p s.mirror } (lostPresence p s) :=
    (followPresence_ownRun { s with mirror := markStale p s.mirror, queue := removeTarget p s.queue }).after rfl rfl rfl
      rfl rfl
  exact hfollow.head (.markStale p s)

theorem peerHeard_ownRun (h : Header) (kind : FrameKind) : OwnRun s (peerHeard h kind s) := by
  have hentry : OwnRun s { s with peers := s.peers.set h.sender (entryAfter kind h) } := stands_ownRun rfl rfl rfl rfl rfl
  have hoffer : ∀ t : State, OwnRun t
      (if wantsRefresh s.peers[h.sender] kind h.sequence then { t with queue := offer t.queue (.refreshReq h.sender) } else t) := by
    intro t
    split
    · exact stands_ownRun rfl rfl rfl rfl rfl
    · exact .refl
  refine (hentry.trans ?_).trans (hoffer _)
  split
  · exact .refl
  · split
    · exact becamePresent_ownRun _ _
    · exact lostPresence_ownRun _ _

/-- A claim of a list of pairs. -/
theorem takePairs_ownRun {claim : PointIndex → Version → State → State} (hclaim : ∀ i v s, OwnRun s (claim i v s))
    (pairs : List ReqPair) : OwnRun s (takePairs claim pairs s) :=
  OwnRun.foldl (fun _ _ => True) (fun s p _ => hclaim p.index p.version s) (fun _ _ _ => id) pairs s fun _ _ => trivial

theorem acknowledge_ownRun (i : PointIndex) (v : Version) (s : State) : OwnRun s (acknowledge i v s) :=
  .single (.acknowledge s i v)

theorem resetClaim_ownRun (i : PointIndex) (v : Version) (s : State) : OwnRun s (resetClaim i v s) :=
  .single (.resetClaim s i v)

/-- The entries of an ANNOUNCE of a peer. -/
theorem takeEntries_ownRun {p : StationNo} (hp : p ≠ ownNumber s) (es : List AnnounceEntry) :
    OwnRun s { s with mirror := es.foldl (takeEntry p) s.mirror } := by
  induction es generalizing s with
  | nil => exact .refl
  | cons e es ih =>
    exact (Relation.ReflTransGen.single (.entry p s e hp)).trans (ih { s with mirror := takeEntry p s.mirror e } hp)

theorem takeBody_ownRun {p : StationNo} (hp : p ≠ ownNumber s) (b : Body) : OwnRun s (takeBody p b s) := by
  cases b with
  | presence m => exact .single (.vacateMasked p m s)
  | hello m =>
    exact ((Relation.ReflTransGen.single (.vacateMasked p m s)).tail
      (.vacateAll p { s with mirror := vacateMasked p m s.mirror })).tail (.refresh _)
  | announce es => exact takeEntries_ownRun s hp es
  | ackReq target pairs =>
    simp only [takeBody]
    split
    · exact takePairs_ownRun s acknowledge_ownRun pairs
    · exact .refl
  | resetReq target pairs =>
    simp only [takeBody]
    split
    · exact takePairs_ownRun s resetClaim_ownRun pairs
    · exact .refl
  | refreshReq target =>
    simp only [takeBody]
    split
    · exact .single (.refresh s)
    · exact .refl
  | silence => exact .single (.silence s)
  | depart => exact .refl

theorem noteHorn_ownRun : OwnRun s (noteHorn s) := stands_ownRun rfl rfl rfl rfl rfl

theorem adopt_ownRun (h : Header) : OwnRun s (adopt h s) := by
  apply stands_ownRun <;> simp [ownNumber]

theorem takePeerFrame_ownRun {f : Frame} (hp : f.header.sender ≠ ownNumber s) : OwnRun s (takePeerFrame f s) := by
  have hheard : OwnRun s (peerHeard f.header (bodyKind f.body) (rotateTo f.header.sender s)) :=
    (peerHeard_ownRun _ _ _).after rfl rfl rfl rfl rfl
  have hbody : OwnRun (peerHeard f.header (bodyKind f.body) (rotateTo f.header.sender s))
      (takeBody f.header.sender f.body (peerHeard f.header (bodyKind f.body) (rotateTo f.header.sender s))) :=
    takeBody_ownRun _ (by simpa [ownNumber] using hp) _
  exact ((hheard.trans hbody).trans (adopt_ownRun _ f.header)).trans (noteHorn_ownRun _)

theorem takeOwnNumberFrame_ownRun : OwnRun s (takeOwnNumberFrame s) :=
  (enterDuplicate_ownRun _).after rfl rfl rfl rfl rfl

theorem hearFrame_ownRun (f : Frame) : OwnRun s (hearFrame f s) := stands_ownRun rfl rfl rfl rfl rfl

theorem takeFrame_ownRun (f : Frame) : OwnRun s (takeFrame f s) := by
  unfold takeFrame
  split
  · exact .refl
  · split
    · exact stands_ownRun rfl rfl rfl rfl rfl
    · split
      · exact (hearFrame_ownRun s f).trans (takeOwnNumberFrame_ownRun _)
      · next hp => exact (hearFrame_ownRun s f).trans (takePeerFrame_ownRun _ hp)

theorem settleAll_ownRun (is : List PointIndex) : OwnRun s (is.foldl settlePoint s) :=
  OwnRun.foldl (fun _ _ => True) (fun s i _ => .single (.settle s i)) (fun _ _ _ => id) is s fun _ _ => trivial

theorem departSucceeded_ownRun : OwnRun s (departSucceeded s) := by
  unfold departSucceeded
  split
  · exact (enterDeparted_ownRun s).trans (enterListen_ownRun _)
  · exact enterDeparted_ownRun s

theorem reportSuccess_ownRun (b : Body) : OwnRun s (reportSuccess b s) := by
  cases b with
  | announce es => exact settleAll_ownRun s _
  | silence =>
    exact OwnRun.after (.single (.silence { s with queue := requestSucceeded s.queue })) rfl rfl rfl rfl rfl
  | hello m =>
    exact OwnRun.after (.single (.refresh { s with member := { s.member with helloQueued := false } })) rfl rfl rfl rfl rfl
  | depart => exact departSucceeded_ownRun s
  | presence _ => exact .refl
  | ackReq _ _ | resetReq _ _ | refreshReq _ => exact stands_ownRun rfl rfl rfl rfl rfl

theorem departFailed_ownRun : OwnRun s (departFailed s) := by
  simp only [departFailed]
  split
  · exact leaveWarning_ownRun s
  · split <;> exact stands_ownRun rfl rfl rfl rfl rfl

theorem reportFailure_ownRun (b : Body) : OwnRun s (reportFailure b s) := by
  cases b with
  | announce es => exact .single (.discard s)
  | depart => exact departFailed_ownRun s
  | presence _ | hello _ => exact .refl
  | ackReq _ _ | resetReq _ _ | refreshReq _ | silence => exact stands_ownRun rfl rfl rfl rfl rfl

theorem refreshIf_ownRun (b : Bool) : OwnRun s (refreshIf b s) := by
  unfold refreshIf
  split
  · exact .single (.refresh s)
  · exact .refl

theorem catchUpAfter_ownRun (b : Body) : OwnRun s (catchUpAfter b s) := by
  unfold catchUpAfter
  split
  · exact catchUp_ownRun s
  · exact .refl

theorem catchUpFailed_ownRun (before : State) (b : Body) : OwnRun s (catchUpFailed before b s) := by
  unfold catchUpFailed
  split
  · exact catchUp_ownRun s
  · exact .refl

theorem succeeded_ownRun (a : Attempt) : OwnRun s (succeeded a s) := by
  have hsteps : OwnRun s (successSteps a.frame s) := stands_ownRun rfl rfl rfl rfl rfl
  exact ((((hsteps.trans (reportSuccess_ownRun _ a.frame.body)).trans (refreshIf_ownRun _ s.access.lineFault)).trans
    (catchUpAfter_ownRun _ a.frame.body)).trans (noteHorn_ownRun _))

theorem failed_ownRun (a : Attempt) : OwnRun s (failed a s) := by
  have hsteps : OwnRun s (failureSteps a s) := stands_ownRun rfl rfl rfl rfl rfl
  exact (((hsteps.trans (reportFailure_ownRun _ a.frame.body)).trans (catchUpFailed_ownRun _ s a.frame.body)).trans
    (noteHorn_ownRun _))

theorem localClaims_ownRun {claim : PointIndex → Version → State → State} (hclaim : ∀ i v s, OwnRun s (claim i v s))
    (test : PointState → Bool) (l : List PointIndex) : OwnRun s (l.foldl (localClaim claim test) s) := by
  refine OwnRun.foldl (fun _ _ => True) (fun s i _ => ?_) (fun _ _ _ => id) l s fun _ _ => trivial
  unfold localClaim
  split
  · exact hclaim _ _ _
  · exact .refl

theorem queue_ownRun (q : RequestQueue) : OwnRun s { s with queue := q } := stands_ownRun rfl rfl rfl rfl rfl

theorem pressKack_ownRun : OwnRun s (pressKack s) :=
  (localClaims_ownRun s acknowledge_ownRun unacked _).trans (queue_ownRun _ _)

theorem pressKrst_ownRun : OwnRun s (pressKrst s) :=
  (localClaims_ownRun s resetClaim_ownRun isCleared _).trans (queue_ownRun _ _)

theorem pressKsil_ownRun : OwnRun s (pressKsil s) := by
  have hoffer : OwnRun s { s with queue := pressOffers [.silence] s.queue } := stands_ownRun rfl rfl rfl rfl rfl
  simp only [pressKsil]
  split
  · exact hoffer.tail (.silence _)
  · exact hoffer

theorem sampleKack_ownRun (level : Bool) : OwnRun s (sampleKack level s) := by
  simp only [sampleKack]
  split
  · exact (pressKack_ownRun _).after rfl rfl rfl rfl rfl
  · exact stands_ownRun rfl rfl rfl rfl rfl

theorem sampleKrst_ownRun (level : Bool) : OwnRun s (sampleKrst level s) := by
  simp only [sampleKrst]
  split
  · exact (pressKrst_ownRun _).after rfl rfl rfl rfl rfl
  · exact stands_ownRun rfl rfl rfl rfl rfl

theorem sampleKsil_ownRun (level : Bool) : OwnRun s (sampleKsil level s) := by
  simp only [sampleKsil]
  split
  · exact (pressKsil_ownRun _).after rfl rfl rfl rfl rfl
  · exact stands_ownRun rfl rfl rfl rfl rfl

theorem sampleKtst_ownRun (level : Bool) : OwnRun s (sampleKtst level s) := stands_ownRun rfl rfl rfl rfl rfl

theorem samplePoints_ownRun (longest : DebounceClass) (levels : Mask) (l : List PointIndex) :
    OwnRun s (l.foldl (samplePoint longest levels) s) :=
  OwnRun.foldl (fun _ _ => True) (fun s i _ => .single (.sample longest levels s i)) (fun _ _ _ => id) l s
    fun _ _ => trivial

theorem pins_ownRun (pins : InputPins) : OwnRun s { s with pins := pins } := stands_ownRun rfl rfl rfl rfl rfl

theorem passOwnNumberFrame_ownRun : OwnRun s (passOwnNumberFrame s) := by
  apply stands_ownRun <;> simp [ownNumber]

end Runs

/-- SLOT_START and the commands of Chapter 10 apart, every command is a run of such steps; and END_OF_LOADING is one where it is
not taken. -/
theorem exec_ownRun {c : Instr} {s t : State} (h : exec c s = .next t) (hc : ∀ cause, c ≠ .stationReset cause)
    (hr : ∀ straps, c ≠ .releaseOfReset straps) (hslot : ∀ cls, c ≠ .slotStart cls) (hload : c = .endOfLoading → s.member.own ≠ .loading) :
    OwnRun s t := by
  cases c with
  | stationReset cause => exact absurd rfl (hc cause)
  | releaseOfReset straps => exact absurd rfl (hr straps)
  | slotStart cls => exact absurd rfl (hslot cls)
  | endOfLoading => rw [exec_endOfLoading_not h (by simp [loading, hload rfl])]
  | fieldInputSample longest levels =>
    cases hl : loading s with
    | true =>
      rw [exec_fieldInputSample_loading longest levels s hl] at h
      obtain rfl := Host.Outcome.next.inj h
      exact pins_ownRun s _
    | false =>
      rw [exec_fieldInputSample_running longest levels s hl] at h
      obtain rfl := Host.Outcome.next.inj h
      exact ((pins_ownRun s _).trans (samplePoints_ownRun _ longest levels _)).trans (noteHorn_ownRun _)
  | keySample levels =>
    cases hl : loading s with
    | true =>
      rw [exec_keySample_loading levels s hl] at h
      obtain rfl := Host.Outcome.next.inj h
      exact pins_ownRun s _
    | false =>
      rw [exec_keySample_running levels s hl] at h
      obtain rfl := Host.Outcome.next.inj h
      exact (((((pins_ownRun s _).trans (sampleKack_ownRun _ _)).trans (sampleKrst_ownRun _ _)).trans
        (sampleKsil_ownRun _ _)).trans (sampleKtst_ownRun _ _)).trans (noteHorn_ownRun _)
  | ownStartMarkEnd =>
    rcases exec_ownStartMarkEnd_cases h with rfl | ⟨a, -, -, -, rfl⟩
    · exact .refl
    · exact stands_ownRun rfl rfl rfl rfl rfl
  | collision half =>
    rcases exec_collision_cases h with rfl | ⟨a, -, -, rfl⟩
    · exact .refl
    · exact stands_ownRun rfl rfl rfl rfl rfl
  | attemptSuccess =>
    rcases exec_attemptSuccess_cases h with rfl | ⟨a, -, -, -, -, rfl⟩
    · exact .refl
    · exact succeeded_ownRun s a
  | attemptFailure =>
    rcases exec_attemptFailure_cases h with rfl | ⟨a, -, -, rfl⟩
    · exact .refl
    · exact failed_ownRun s a
  | receivePresence | receiveHello | receiveAnnounce | receiveAckReq | receiveResetReq | receiveRefreshReq
  | receiveSilence | receiveDepart =>
    obtain rfl := Host.Outcome.next.inj h
    exact takeFrame_ownRun s _
  | receiveOwnNumberFrame =>
    simp only [exec, execReceiveOwnNumberFrame] at h
    split at h <;> obtain rfl := Host.Outcome.next.inj h
    · exact ((passOwnNumberFrame_ownRun s).trans (hearFrame_ownRun _ _)).trans (takeOwnNumberFrame_ownRun _)
    · exact .refl
  | jamEvent | listenWindowEnd =>
    simp only [exec, execJamEvent, execListenWindowEnd] at h
    split at h <;> obtain rfl := Host.Outcome.next.inj h
    · exact (catchUpFrom_ownRun _ _).after rfl rfl rfl rfl rfl
    · exact .refl
  | lostTimerExpiry p =>
    simp only [exec, execLostTimerExpiry] at h
    split at h <;> obtain rfl := Host.Outcome.next.inj h
    · exact (lostPresence_ownRun _ p).after rfl rfl rfl rfl rfl
    · exact .refl
  | supplyWarningEvent =>
    simp only [exec, execSupplyWarningEvent] at h
    split at h <;> obtain rfl := Host.Outcome.next.inj h
    · exact (supplyWarned_ownRun _).after rfl rfl rfl rfl rfl
    · exact .refl
  | supplyRecoveryEvent =>
    simp only [exec, execSupplyRecoveryEvent] at h
    split at h <;> obtain rfl := Host.Outcome.next.inj h
    · exact (supplyRecovered_ownRun _).after rfl rfl rfl rfl rfl
    · exact .refl
  | damagedFrame | spike | unframedCarrier =>
    simp only [exec, execDamagedFrame, execSpike, execUnframedCarrier] at h
    split at h <;> obtain rfl := Host.Outcome.next.inj h <;> apply stands_ownRun <;> simp [ownNumber]
  | lineBusy | lineQuiet | ladderRepeat | ladderStartAfterUnheardAttempt | presenceTimerExpiry | startOfFrame
  | firstHighSample | cdiSample | commonPeriodStart | toneInstant =>
    simp only [exec, execLineBusy, execLineQuiet, execLadderRepeat, execLadderStartAfterUnheardAttempt,
      execPresenceTimerExpiry, execStartOfFrame, execFirstHighSample, execCdiSample, execCommonPeriodStart,
      execToneInstant] at h
    (repeat' split at h) <;> obtain rfl := Host.Outcome.next.inj h <;> exact stands_ownRun rfl rfl rfl rfl rfl

end Sys2Proof.Machine
end

section
/-! PROOFS. Own records, conditions and the Announcement List: the agreement that every step keeps (O55). -/

namespace Sys2Proof.Machine

open Sys2Proof.Safety

/-! ### One sample of a field input, exactly -/

/-- The disagree count of own point `i` after a sample of the field inputs (Table 9, R3, R6). -/
def countAfter (longest : DebounceClass) (levels : Mask) (s : State) (i : PointIndex) : Fin 4 :=
  if s.points[i].enabled && sampledAt longest s.points[i].cls then
    (debounce (seenAt levels s i == s.points[i].condition) s.disagree[i]).1
  else s.disagree[i]

/-- One sample of a field input writes its own count, and is a condition event where it takes a change (R4). -/
theorem samplePoint_eq (longest : DebounceClass) (levels : Mask) (s : State) (i : PointIndex) :
    samplePoint longest levels s i =
      if changesAt longest levels s i = true then
        conditionEvent i (seenAt levels s i) { s with disagree := s.disagree.set i (countAfter longest levels s i) }
      else { s with disagree := s.disagree.set i (countAfter longest levels s i) } := by
  by_cases hsampled : (s.points[i].enabled && sampledAt longest s.points[i].cls) = true
  · have htaken : (debounce (seenAt levels s i == s.points[i].condition) s.disagree[i]).2 =
        changesAt longest levels s i := by
      rw [debounce_taken, changesAt, hsampled, Bool.true_and]
      rfl
    rw [← htaken, countAfter, if_pos hsampled]
    exact if_pos hsampled
  · have hno : changesAt longest levels s i = false := by
      rw [changesAt, eq_false_of_ne_true hsampled, Bool.false_and, Bool.false_and]
    have hsame : s.disagree.set i s.disagree[i] = s.disagree := Vector.set_getElem_self ..
    rw [hno, countAfter, if_neg hsampled, hsame]
    exact if_neg hsampled

theorem samplePoint_disagree (longest : DebounceClass) (levels : Mask) (s : State) (i j : PointIndex) :
    (samplePoint longest levels s i).disagree[j] = if j = i then countAfter longest levels s i else s.disagree[j] := by
  have hset : (samplePoint longest levels s i).disagree = s.disagree.set i (countAfter longest levels s i) := by
    rw [samplePoint_eq]; split <;> simp
  rw [hset, get_set_fin]

/-- `applyMove` lists its point where there is a move (R83). -/
theorem applyMove_list (i : PointIndex) (move : Option PointState) (s : State) :
    (applyMove i move s).list = if move.isSome then append i s.list else s.list := by
  cases move with
  | none => rfl
  | some new => exact stateChange_list i new s

theorem samplePoint_list (longest : DebounceClass) (levels : Mask) (s : State) (i : PointIndex) :
    (samplePoint longest levels s i).list =
      if (moveAt longest levels s i).isSome then append i s.list else s.list := by
  rw [samplePoint_eq, moveAt]
  split
  · exact applyMove_list i _ _
  · rfl

/-- A point that is not sampled keeps its count. -/
theorem countAfter_of_disabled {longest : DebounceClass} {levels : Mask} {s : State} {i : PointIndex}
    (h : s.points[i].enabled = false) : countAfter longest levels s i = s.disagree[i] :=
  if_neg (by rw [h, Bool.false_and]; exact Bool.false_ne_true)

theorem changesAt_enabled {longest : DebounceClass} {levels : Mask} {s : State} {i : PointIndex}
    (h : changesAt longest levels s i = true) :
    s.points[i].enabled = true ∧ seenAt levels s i ≠ s.points[i].condition := by
  simp only [changesAt, Bool.and_eq_true, bne_iff_ne] at h
  exact ⟨h.1.1.1, h.1.2⟩

/-! ### Coherent records -/

/-- A change of condition with the move of Tables 12 and 15 leaves the record coherent. -/
theorem pointCoherent_conditionMove (locally : Bool) {r : OwnPoint} {event : Condition} (h : PointCoherent r)
    (hne : event ≠ r.condition) :
    PointCoherent (moved locally (conditionMove r.mode event r.state) { r with condition := event }) := by
  obtain ⟨hcondition, hmode⟩ := h
  simp only [PointCoherent, moved_condition, moved_state, moved_mode]
  cases hm : r.mode <;> cases he : event <;> cases hst : r.state <;> cases hc : r.condition <;>
    simp_all [conditionMove]

/-- The moves of a claim leave the record coherent: they keep the condition (Tables 13, 14 and 16). -/
theorem pointCoherent_claimMove (locally : Bool) {r : OwnPoint} {new : PointState} (h : PointCoherent r)
    (hm : acknowledgeMove r.mode r.state = some new ∨ resetMove r.mode r.state = some new) :
    PointCoherent (moved locally (some new) r) := by
  obtain ⟨hcondition, hmode⟩ := h
  simp only [PointCoherent, moved_condition, moved_state, moved_mode, Option.getD_some]
  cases hmo : r.mode <;> cases hst : r.state <;> simp_all [acknowledgeMove, resetMove] <;> subst hm <;> simp_all

/-- What O55 says of the own points and the list. -/
def OwnCoherent (s : State) : Prop := PointsCoherent s ∧ ListCoherent s

theorem OwnCoherent.congr {s t : State} (hs : OwnCoherent s) (points : t.points = s.points) (list : t.list = s.list)
    (disagree : t.disagree = s.disagree) : OwnCoherent t := by
  simpa only [OwnCoherent, PointsCoherent, ListCoherent, points, list, disagree] using hs

section Steps

variable {s : State} (hs : OwnCoherent s)

include hs

theorem listed_enabled {i : PointIndex} (hi : i ∈ s.list) : s.points[i].enabled = true := hs.2.2 i hi

theorem catchUpPoint_ownCoherent {i : PointIndex} (hi : i ∈ s.list) : OwnCoherent (catchUpPoint s i) := by
  have he := listed_enabled hs hi
  obtain ⟨hpoints, hlist⟩ := hs
  refine ⟨fun j => ?_, by simpa using hlist.1, fun j hj => ?_⟩
  · rw [catchUpPoint_points]
    obtain ⟨hcoherent, hinert, hcount⟩ := hpoints j
    split
    · next hji =>
      obtain ⟨rfl, -⟩ := hji
      exact ⟨hcoherent, fun hno => absurd (he.symm.trans hno) (by decide), by simpa using hcount⟩
    · exact ⟨hcoherent, hinert, by simpa using hcount⟩
  · rw [catchUpPoint_points]
    have := hlist.2 j (by simpa using hj)
    split <;> exact this

/-- A state change of an enabled point that leaves its record coherent. -/
theorem stateChange_ownCoherent {i : PointIndex} {new : PointState} (he : s.points[i].enabled = true)
    (hnew : PointCoherent (moved (localMode s) (some new) s.points[i])) : OwnCoherent (stateChange i new s) := by
  obtain ⟨hpoints, hnodup, henabled⟩ := hs
  have hrecord : ∀ j : PointIndex, (stateChange i new s).points[j] =
      if j = i then moved (localMode s) (some new) s.points[j] else s.points[j] := fun j =>
    applyMove_points i j (some new) s
  refine ⟨fun j => ?_, ?_, fun j hj => ?_⟩
  · rw [hrecord]
    obtain ⟨hcoherent, hinert, hcount⟩ := hpoints j
    split
    · next hji =>
      subst hji
      exact ⟨hnew, fun hno => absurd (he.symm.trans hno) (by decide), by simpa using hcount⟩
    · exact ⟨hcoherent, hinert, by simpa using hcount⟩
  · rw [stateChange_list]; exact nodup_append i _ hnodup
  · rw [stateChange_list, mem_append] at hj
    rw [hrecord]
    have hj' : s.points[j].enabled = true := by
      rcases hj with hj | rfl
      · exact henabled j hj
      · exact he
    split
    · rw [moved_enabled]; exact hj'
    · exact hj'

theorem acknowledge_ownCoherent (i : PointIndex) (v : Version) : OwnCoherent (acknowledge i v s) := by
  rcases versionedClaim_cases acknowledgeMove i v s with h | ⟨new, he, -, hnew, h⟩ <;> rw [acknowledge, h]
  · exact hs
  · exact stateChange_ownCoherent hs he (pointCoherent_claimMove _ (hs.1 i).1 (.inl hnew))

theorem resetClaim_ownCoherent (i : PointIndex) (v : Version) : OwnCoherent (resetClaim i v s) := by
  rcases versionedClaim_cases resetMove i v s with h | ⟨new, he, -, hnew, h⟩ <;> rw [resetClaim, h]
  · exact hs
  · exact stateChange_ownCoherent hs he (pointCoherent_claimMove _ (hs.1 i).1 (.inr hnew))

theorem samplePoint_ownCoherent (longest : DebounceClass) (levels : Mask) (i : PointIndex) :
    OwnCoherent (samplePoint longest levels s i) := by
  obtain ⟨hpoints, hnodup, henabled⟩ := hs
  have hkeeps : ∀ j : PointIndex, (samplePoint longest levels s i).points[j].enabled = s.points[j].enabled := by
    intro j
    rw [samplePoint_points]
    split
    · rw [sampledRecord, moved_enabled]; split <;> rfl
    · rfl
  refine ⟨fun j => ?_, ?_, fun j hj => ?_⟩
  · obtain ⟨hcoherent, hinert, hcount⟩ := hpoints j
    refine ⟨?_, ?_, fun hno => ?_⟩
    · rw [samplePoint_points]
      split
      · by_cases hc : changesAt longest levels s j = true
        · rw [sampledRecord_of_change hc]
          exact pointCoherent_conditionMove _ hcoherent (changesAt_enabled hc).2
        · rw [sampledRecord_of_noChange hc]
          exact hcoherent
      · exact hcoherent
    · rw [samplePoint_points]
      split
      · by_cases hc : changesAt longest levels s j = true
        · rw [sampledRecord_of_change hc]
          intro hno
          rw [moved_enabled] at hno
          exact absurd ((changesAt_enabled hc).1.symm.trans hno) (by decide)
        · rw [sampledRecord_of_noChange hc]
          exact hinert
      · exact hinert
    · rw [hkeeps] at hno
      rw [samplePoint_disagree]
      split
      · next hji =>
        subst hji
        rw [countAfter_of_disabled hno]
        exact hcount hno
      · exact hcount hno
  · rw [samplePoint_list]
    split
    · exact nodup_append i _ hnodup
    · exact hnodup
  · rw [hkeeps]
    rw [samplePoint_list] at hj
    split at hj
    · next hmove =>
      rcases (mem_append i j _).mp hj with hj | rfl
      · exact henabled j hj
      · have hc : changesAt longest levels s j = true := by
          by_contra hc
          simp [moveAt, hc] at hmove
        exact (changesAt_enabled hc).1
    · exact henabled j hj

theorem fullRefresh_ownCoherent : OwnCoherent (fullRefresh s) := by
  obtain ⟨hpoints, hnodup, henabled⟩ := hs
  refine ⟨fun j => by simpa using hpoints j, nodup_fullRefresh s hnodup, fun j hj => ?_⟩
  rcases (mem_fullRefresh s j).mp hj with hj | hj
  · simpa using henabled j hj
  · simpa using hj

/-- Writing records that differ in their two pairs only, absent ones at a disabled point, and taking points from the list. -/
theorem ownCoherent_of_pairs {t : State} (hdisagree : t.disagree = s.disagree) (hlist : t.list.Sublist s.list)
    (hpoints : ∀ i : PointIndex, ∃ published snapshot, t.points[i] =
      { s.points[i] with published := published, snapshot := snapshot } ∧
      (s.points[i].enabled = false → s.points[i].published = none → s.points[i].snapshot = none →
        published = none ∧ snapshot = none)) : OwnCoherent t := by
  obtain ⟨hcoherent, hnodup, henabled⟩ := hs
  refine ⟨fun i => ?_, hlist.nodup hnodup, fun i hi => ?_⟩
  · obtain ⟨published, snapshot, heq, hnone⟩ := hpoints i
    obtain ⟨hc, hinert, hcount⟩ := hcoherent i
    rw [heq, hdisagree]
    refine ⟨hc, fun hno => ?_, hcount⟩
    obtain ⟨h1, h2, h3, h4, h5⟩ := hinert hno
    exact ⟨h1, h2, h3, hnone hno h4 h5⟩
  · obtain ⟨published, snapshot, heq, -⟩ := hpoints i
    rw [heq]
    exact henabled i (hlist.subset hi)

end Steps

theorem settled_of_none {r : OwnPoint} (h : r.snapshot = none) : settled r = r := by
  cases r
  simp_all [settled]

theorem settled_of_some {r : OwnPoint} {pair : PointPair} (h : r.snapshot = some pair) :
    settled r = { r with snapshot := none, published := some pair } := by
  simp [settled, h]

/-- The snapshot rule on one point (R89): the record loses its snapshot, which is published. -/
theorem settlePoint_points (s : State) (i j : PointIndex) :
    (settlePoint s i).points[j] = if j = i then settled s.points[j] else s.points[j] := by
  unfold settlePoint
  cases hsnap : s.points[i].snapshot with
  | none =>
    dsimp only
    split
    · next e =>
      subst e
      exact (settled_of_none hsnap).symm
    · rfl
  | some pair =>
    dsimp only
    rw [get_set_fin, publish_points, publish_points, if_pos rfl]
    split
    · next e =>
      subst e
      exact (settled_of_some hsnap).symm
    · rfl

/-- The snapshot rule takes its point from the list exactly if it has not changed since (R89). -/
theorem settlePoint_list (s : State) (i : PointIndex) :
    (settlePoint s i).list = if s.points[i].snapshot = some (pairOf s.points[i]) then s.list.filter (· != i) else s.list := by
  unfold settlePoint
  cases hsnap : s.points[i].snapshot with
  | none => simp
  | some pair =>
    have hpair : pairOf (publish i pair s).points[i] = pairOf s.points[i] := by rw [publish_points, if_pos rfl]; rfl
    simp only [publish_frame, hpair, Option.some.injEq]
    by_cases e : pairOf s.points[i] = pair
    · rw [if_pos e, if_pos e.symm]
    · rw [if_neg e, if_neg fun h => e h.symm]

theorem OwnStep.ownCoherent {s t : State} (h : OwnStep s t) (hs : OwnCoherent s) : OwnCoherent t := by
  cases h with
  | stands points list mirror disagree number => exact hs.congr points list disagree
  | catchUp _ i listed => exact catchUpPoint_ownCoherent hs listed
  | acknowledge _ i v => exact acknowledge_ownCoherent hs i v
  | resetClaim _ i v => exact resetClaim_ownCoherent hs i v
  | sample longest levels _ i => exact samplePoint_ownCoherent hs longest levels i
  | refresh => exact fullRefresh_ownCoherent hs
  | settle _ i =>
    refine ownCoherent_of_pairs hs (by simp) ?_ fun j => ?_
    · rw [settlePoint_list]
      split
      · exact List.filter_sublist
      · exact .refl _
    · rw [settlePoint_points]
      split
      · exact ⟨_, _, rfl, fun _ h1 h2 => by rw [h1, h2]; exact ⟨rfl, rfl⟩⟩
      · exact ⟨_, _, rfl, fun _ h1 h2 => ⟨h1, h2⟩⟩
  | discard =>
    refine ownCoherent_of_pairs hs rfl (.refl _) fun j => ?_
    simp only [discardSnapshots, get_ofFn_fin]
    exact ⟨_, _, rfl, fun _ h1 _ => ⟨h1, rfl⟩⟩
  | silence | entry | vacateMasked | vacateAll | markStale | clearStale => exact hs

/-! ### The commands -/

/-- The snapshots of a build go to listed points, which are enabled (R88). -/
theorem takeSnapshots_ownCoherent {s : State} (hs : OwnCoherent s) : OwnCoherent (takeSnapshots s) := by
  refine ownCoherent_of_pairs hs rfl (.refl _) fun j => ?_
  simp only [takeSnapshots, get_ofFn_fin]
  split
  · next hj => exact ⟨_, _, rfl, fun hno => absurd ((listed_enabled hs hj).symm.trans hno) (by decide)⟩
  · exact ⟨_, _, rfl, fun _ h1 h2 => ⟨h1, h2⟩⟩

/-- The build of an ANNOUNCE writes the snapshots; no other writes a record. -/
theorem beginAttempt_points (c : Choice) (s : State) :
    (beginAttempt c s).points = if c = .announce then (takeSnapshots s).points else s.points := by
  cases c <;> simp [beginAttempt, markBuild]

theorem beginAttempt_ownCoherent {c : Choice} {s : State} (hs : OwnCoherent s) : OwnCoherent (beginAttempt c s) := by
  by_cases hc : c = .announce
  · exact (takeSnapshots_ownCoherent hs).congr (by rw [beginAttempt_points, if_pos hc]) (by simp) (by simp)
  · exact hs.congr (by rw [beginAttempt_points, if_neg hc]) (by simp) (by simp)

/-- A record with any settings and the reset values of the other fields is coherent, and inert if it is disabled. -/
theorem fresh_coherent (c : Config.PointSettings) : PointCoherent (.fresh c) ∧ DisabledInert (.fresh c) := by
  simp [PointCoherent, DisabledInert, OwnPoint.fresh]

theorem ownCoherent_of_loading {s : State} (hq : LoadingQuiescent s) (hload : s.member.own = .loading) :
    OwnCoherent s := by
  obtain ⟨hdisagree, hpoints, hlist, -⟩ := hq hload
  refine ⟨fun i => ?_, by simp [ListCoherent, hlist]⟩
  simpa [hdisagree, hpoints] using fresh_coherent Config.defaultPoint

theorem enterListen_ownCoherent {s : State} (hs : OwnCoherent s) : OwnCoherent (enterListen s) :=
  (enterListen_ownRun s).keeps (fun _ _ => OwnStep.ownCoherent) hs

/-- The five fields of a configured record are those of its settings; the rest stands. -/
theorem configure_fresh (c d : Config.PointSettings) : configure c (.fresh d) = .fresh c := rfl

theorem loaded_ownCoherent {s : State} (hq : LoadingQuiescent s) (hload : s.member.own = .loading) :
    OwnCoherent (loaded s) := by
  obtain ⟨hdisagree, hpoints, hlist, -⟩ := hq hload
  refine enterListen_ownCoherent ⟨fun i => ?_, by simp [ListCoherent, hlist]⟩
  have hrecord : ∀ i : PointIndex, s.points[i] = .fresh Config.defaultPoint := fun i => by simp [hpoints]
  obtain ⟨hcoherent, hinert⟩ := fresh_coherent (settingsFor s.startup).points[i]
  simp only [get_ofFn_fin, hrecord, configure_fresh, hdisagree]
  exact ⟨hcoherent, hinert, fun _ => by simp⟩

theorem exec_ownCoherent {c : Instr} {s t : State} (h : exec c s = .next t) (hq : LoadingQuiescent s)
    (hs : OwnCoherent s) : OwnCoherent t := by
  by_cases hload : s.member.own = .loading
  · rcases exec_loading_cases h hq hload with hstays | rfl
    · exact ownCoherent_of_loading (exec_loadingQuiescent h hq) hstays
    · exact loaded_ownCoherent hq hload
  by_cases hreset : ∃ cause, c = .stationReset cause
  · obtain ⟨cause, rfl⟩ := hreset
    have hqt := exec_loadingQuiescent h hq
    cases h
    exact ownCoherent_of_loading hqt rfl
  by_cases hrelease : ∃ straps, c = .releaseOfReset straps
  · obtain ⟨straps, rfl⟩ := hrelease
    simp only [exec, execReleaseOfReset] at h
    split at h <;> cases h <;> exact hs
  by_cases hslot : ∃ cls, c = .slotStart cls
  · obtain ⟨cls, rfl⟩ := hslot
    rcases exec_slotStart_cases h with rfl | ⟨l, -, rfl | ⟨c, -, -, rfl⟩⟩
    · exact hs
    · exact hs
    · exact beginAttempt_ownCoherent (s := slotBegun cls l s) hs
  exact (exec_ownRun h (fun _ e => hreset ⟨_, e⟩) (fun _ e => hrelease ⟨_, e⟩) (fun _ e => hslot ⟨_, e⟩) fun _ => hload).keeps
    (fun _ _ => OwnStep.ownCoherent) hs

/-- Settles O55: every operation on the own points keeps their records and the list coherent, and the configuration of
END_OF_LOADING finds them at their reset values. -/
theorem ownPointsStayCoherent : Obligations.OwnPointsStayCoherent := fun _ _ hs h =>
  step_keeps (Inv := fun s => LoadingQuiescent s ∧ OwnCoherent s) (fun _ _ => id)
    (fun _ _ _ h hs => ⟨exec_loadingQuiescent h hs.1, exec_ownCoherent h hs.1 hs.2⟩)
    (fun _ _ hs => ⟨tick_loadingQuiescent hs.1, hs.2.congr (by simp) (by simp) (by simp)⟩) hs h

end Sys2Proof.Machine
end

section
/-! PROOFS. Snapshots and the ANNOUNCE in flight: the agreement that every step keeps (O56). -/

namespace Sys2Proof.Machine

open Sys2Proof.Safety

/-! ### The frame in flight -/

/-- The body of the frame in flight, if an attempt is in progress. -/
def bodyInFlight (a : AccessController) : Option Body := a.attempt.map (·.frame.body)

theorem bodyInFlight_congr {a b : AccessController} (h : SameAttempt a b) : bodyInFlight b = bodyInFlight a := by
  rw [bodyInFlight, bodyInFlight, h.1]

/-- The build and the end of an attempt apart, every command outside LOADING but a station reset leaves the body in flight. -/
theorem exec_bodyInFlight {c : Instr} {s t : State} (h : exec c s = .next t) (hc : ∀ cause, c ≠ .stationReset cause)
    (hslot : ∀ cls, c ≠ .slotStart cls) (hsuccess : c ≠ .attemptSuccess) (hfailure : c ≠ .attemptFailure)
    (hload : s.member.own ≠ .loading) : bodyInFlight t.access = bodyInFlight s.access := by
  by_cases hline : touchesLine c = false
  · exact bodyInFlight_congr (exec_line h hline).2
  cases c with
  | stationReset cause => exact absurd rfl (hc cause)
  | slotStart cls => exact absurd rfl (hslot cls)
  | attemptSuccess => exact absurd rfl hsuccess
  | attemptFailure => exact absurd rfl hfailure
  | endOfLoading => rw [exec_endOfLoading_not h (by simp [loading, hload])]
  | ownStartMarkEnd =>
    rcases exec_ownStartMarkEnd_cases h with rfl | ⟨a, ha, -, -, rfl⟩
    · rfl
    · simp [bodyInFlight, ha, withPhase]
  | collision half =>
    rcases exec_collision_cases h with rfl | ⟨a, ha, -, rfl⟩
    · rfl
    · simp [bodyInFlight, ha]
  | receivePresence | receiveHello | receiveAnnounce | receiveAckReq | receiveResetReq | receiveRefreshReq
  | receiveSilence | receiveDepart =>
    obtain rfl := Host.Outcome.next.inj h
    by_cases hr : s.line.receiver = .frame
    · exact bodyInFlight_congr (takeFrame_line hr).2
    · rw [takeFrame_of_not_frame _ hr]
  | receiveOwnNumberFrame =>
    simp only [exec, execReceiveOwnNumberFrame] at h
    split at h <;> obtain rfl := Host.Outcome.next.inj h
    · rw [bodyInFlight_congr (takeOwnNumberFrame_line _).2]
      simp [bodyInFlight]
    · rfl
  | lineBusy =>
    simp only [exec, execLineBusy] at h
    split at h <;> obtain rfl := Host.Outcome.next.inj h
    · simp [bodyInFlight, Function.comp_def]
    · rfl
  | damagedFrame | spike | unframedCarrier =>
    simp only [exec, execDamagedFrame, execSpike, execUnframedCarrier] at h
    split at h <;> obtain rfl := Host.Outcome.next.inj h <;> simp [bodyInFlight, frameDamaged]
  | jamEvent =>
    simp only [exec, execJamEvent] at h
    split at h <;> obtain rfl := Host.Outcome.next.inj h <;> simp [bodyInFlight]
  | lineQuiet | ladderRepeat | ladderStartAfterUnheardAttempt | startOfFrame | firstHighSample =>
    simp only [exec, execLineQuiet, execLadderRepeat, execLadderStartAfterUnheardAttempt, execStartOfFrame,
      execFirstHighSample] at h
    (repeat' split at h) <;> obtain rfl := Host.Outcome.next.inj h <;> rfl
  | _ => exact absurd rfl hline

/-! ### Snapshots -/

/-- A snapshot that stands afterwards stood before, and its point is still listed if it was. -/
def SnapshotsStand (s t : State) : Prop :=
  ∀ (i : PointIndex) (pair : PointPair), t.points[i].snapshot = some pair →
    s.points[i].snapshot = some pair ∧ (i ∈ s.list → i ∈ t.list)

/-- No record has a snapshot. -/
def NoSnapshots (s : State) : Prop := ∀ i : PointIndex, s.points[i].snapshot = none

theorem SnapshotsStand.none {s t : State} (h : SnapshotsStand s t) (hs : NoSnapshots s) : NoSnapshots t := by
  intro i
  cases ht : t.points[i].snapshot with
  | none => rfl
  | some pair => exact absurd ((h i pair ht).1.symm.trans (hs i)) (Option.some_ne_none pair)

theorem snapshot_moved {locally : Bool} {move : Option PointState} {r : OwnPoint} {pair : PointPair}
    (h : (moved locally move r).snapshot = some pair) : r.snapshot = some pair := by
  cases move with
  | none => exact h
  | some new => cases locally <;> simp_all [moved]

theorem stateChange_snapshotsStand (i : PointIndex) (new : PointState) (s : State) :
    SnapshotsStand s (stateChange i new s) := by
  intro j pair hj
  refine ⟨?_, fun hl => by rw [stateChange_list, mem_append]; exact .inl hl⟩
  have hrecord := applyMove_points i j (some new) s
  rw [show (stateChange i new s).points[j] = _ from hrecord] at hj
  split at hj
  · exact snapshot_moved hj
  · exact hj

theorem versionedClaim_snapshotsStand (moveOf : PointMode → PointState → Option PointState) (i : PointIndex)
    (v : Version) (s : State) : SnapshotsStand s (versionedClaim moveOf i v s) := by
  rcases versionedClaim_cases moveOf i v s with h | ⟨new, -, -, -, h⟩ <;> rw [h]
  · exact fun _ _ h => ⟨h, id⟩
  · exact stateChange_snapshotsStand i new s

theorem samplePoint_snapshotsStand (longest : DebounceClass) (levels : Mask) (s : State) (i : PointIndex) :
    SnapshotsStand s (samplePoint longest levels s i) := by
  intro j pair hj
  refine ⟨?_, fun hl => ?_⟩
  · rw [samplePoint_points] at hj
    split at hj
    · rw [sampledRecord] at hj
      have := snapshot_moved hj
      split at this <;> exact this
    · exact hj
  · rw [samplePoint_list]
    split
    · exact (mem_append i j _).mpr (.inl hl)
    · exact hl

theorem settlePoint_snapshotsStand (s : State) (i : PointIndex) : SnapshotsStand s (settlePoint s i) := by
  intro j pair hj
  rw [settlePoint_points] at hj
  split at hj
  · cases hj
  · next hne =>
    refine ⟨hj, fun hl => ?_⟩
    rw [settlePoint_list]
    split
    · exact List.mem_filter.mpr ⟨hl, by simpa using hne⟩
    · exact hl

theorem OwnStep.snapshotsStand {s t : State} (h : OwnStep s t) : SnapshotsStand s t := by
  cases h with
  | stands points list mirror disagree number => exact fun i pair hi => by rw [points] at hi; exact ⟨hi, fun hl => list ▸ hl⟩
  | catchUp _ i listed =>
    intro j pair hj
    rw [catchUpPoint_points] at hj
    refine ⟨?_, fun hl => by simpa using hl⟩
    split at hj <;> exact hj
  | acknowledge _ i v => exact versionedClaim_snapshotsStand _ i v s
  | resetClaim _ i v => exact versionedClaim_snapshotsStand _ i v s
  | sample longest levels _ i => exact samplePoint_snapshotsStand longest levels s i
  | refresh =>
    intro j pair hj
    exact ⟨by simpa using hj, fun hl => (mem_fullRefresh s j).mpr (.inl hl)⟩
  | settle _ i => exact settlePoint_snapshotsStand s i
  | discard =>
    intro j pair hj
    simp only [discardSnapshots, get_ofFn_fin] at hj
    cases hj
  | silence | entry | vacateMasked | vacateAll | markStale | clearStale => exact fun _ _ h => ⟨h, id⟩

theorem OwnRun.snapshotsStand {s t : State} (h : OwnRun s t) : SnapshotsStand s t := by
  induction h with
  | refl => exact fun _ _ h => ⟨h, id⟩
  | tail _ hlast ih =>
    intro i pair hi
    obtain ⟨hmid, hlist⟩ := OwnStep.snapshotsStand hlast i pair hi
    obtain ⟨hfirst, hlist'⟩ := ih i pair hmid
    exact ⟨hfirst, fun hl => hlist (hlist' hl)⟩

theorem OwnRun.noSnapshots {s t : State} (h : OwnRun s t) (hs : NoSnapshots s) : NoSnapshots t := h.snapshotsStand.none hs

/-! ### Snapshots and the frame in flight -/

/-- The body carries this pair for the point. -/
def bodyCarries (i : PointIndex) (pair : PointPair) : Body → Bool
  | .announce es => es.any fun e => e.index == i && e.state == pair.state && e.version == pair.version
  | _ => false

theorem carries_eq (s : State) (i : PointIndex) (pair : PointPair) :
    carries s i pair = (bodyInFlight s.access).any (bodyCarries i pair) := by
  unfold carries bodyInFlight
  cases s.access.attempt with
  | none => rfl
  | some a => cases hb : a.frame.body <;> simp [bodyCarries, hb]

theorem SnapshotsStand.inFlight {s t : State} (h : SnapshotsStand s t)
    (hbody : bodyInFlight t.access = bodyInFlight s.access) (hs : SnapshotsInFlight s) : SnapshotsInFlight t := by
  intro i pair hi
  obtain ⟨hsnap, hlist⟩ := h i pair hi
  obtain ⟨hl, hcarries⟩ := hs i pair hsnap
  rw [carries_eq] at hcarries ⊢
  exact ⟨hlist hl, hbody ▸ hcarries⟩

theorem NoSnapshots.inFlight {s : State} (h : NoSnapshots s) : SnapshotsInFlight s :=
  fun i pair hi => absurd ((h i).symm.trans hi) (by simp)

/-- Where no ANNOUNCE is in flight, no snapshot stands. -/
theorem noSnapshots_of_inFlight {s : State} (hs : SnapshotsInFlight s)
    (hbody : ∀ es, bodyInFlight s.access ≠ some (.announce es)) : NoSnapshots s := by
  intro i
  cases hsnap : s.points[i].snapshot with
  | none => rfl
  | some pair =>
    have hcarries := (hs i pair hsnap).2
    rw [carries_eq] at hcarries
    cases hb : bodyInFlight s.access with
    | none => simp [hb] at hcarries
    | some b =>
      cases b with
      | announce es => exact absurd hb (hbody es)
      | _ => simp [hb, bodyCarries] at hcarries

/-- After the snapshot rule on these points, a snapshot stands at none of them. -/
theorem settleAll_snapshot (is : List PointIndex) (s : State) (i : PointIndex) (hi : i ∈ is) :
    (is.foldl settlePoint s).points[i].snapshot = none := by
  induction is generalizing s with
  | nil => simp at hi
  | cons k is ih =>
    by_cases hmem : i ∈ is
    · exact ih (settlePoint s k) hmem
    · have hik : i = k := by simpa [hmem] using hi
      subst hik
      have hnone : (settlePoint s i).points[i].snapshot = none := by rw [settlePoint_points, if_pos rfl]; rfl
      cases hsnap : ((i :: is).foldl settlePoint s).points[i].snapshot with
      | none => rfl
      | some pair =>
        have hstand := (settleAll_ownRun (settlePoint s i) is).snapshotsStand i pair hsnap
        exact absurd (hstand.1.symm.trans hnone) (Option.some_ne_none pair)

theorem noSnapshots_congr {s t : State} (h : NoSnapshots s) (hpoints : t.points = s.points) : NoSnapshots t := by
  intro i
  rw [hpoints]
  exact h i

/-- The report of a success leaves no snapshot (R89). -/
theorem reportSuccess_noSnapshots {b : Body} {s u : State} (hs : SnapshotsInFlight s)
    (hb : bodyInFlight s.access = some b) (hu : u.points = s.points) : NoSnapshots (reportSuccess b u) := by
  by_cases hann : ∃ es, b = .announce es
  · obtain ⟨es, rfl⟩ := hann
    intro i
    cases hsnap : (reportSuccess (.announce es) u).points[i].snapshot with
    | none => rfl
    | some pair =>
      have hstood := ((reportSuccess_ownRun u (.announce es)).snapshotsStand i pair hsnap).1
      rw [hu] at hstood
      have hcarries := (hs i pair hstood).2
      rw [carries_eq, hb] at hcarries
      obtain ⟨e, he, hindex⟩ := List.any_eq_true.mp hcarries
      have hmem : i ∈ es.map (·.index) := List.mem_map.mpr ⟨e, he, by simp_all⟩
      exact absurd (hsnap.symm.trans (settleAll_snapshot _ u i hmem)) (Option.some_ne_none pair)
  · exact (reportSuccess_ownRun u b).noSnapshots
      (noSnapshots_congr (noSnapshots_of_inFlight hs fun es e => hann ⟨es, Option.some.inj (hb.symm.trans e)⟩) hu)

/-- The report of a failure leaves no snapshot (R90). -/
theorem reportFailure_noSnapshots {b : Body} {s u : State} (hs : SnapshotsInFlight s)
    (hb : bodyInFlight s.access = some b) (hu : u.points = s.points) : NoSnapshots (reportFailure b u) := by
  by_cases hann : ∃ es, b = .announce es
  · obtain ⟨es, rfl⟩ := hann
    intro i
    simp only [reportFailure, discardSnapshots, get_ofFn_fin]
  · exact (reportFailure_ownRun u b).noSnapshots
      (noSnapshots_congr (noSnapshots_of_inFlight hs fun es e => hann ⟨es, Option.some.inj (hb.symm.trans e)⟩) hu)

theorem succeeded_noSnapshots {a : Attempt} {s : State} (hs : SnapshotsInFlight s) (ha : s.access.attempt = some a) :
    NoSnapshots (succeeded a s) := by
  have hreport := reportSuccess_noSnapshots (u := successSteps a.frame s) hs (by rw [bodyInFlight, ha]; rfl) rfl
  exact OwnRun.noSnapshots (((refreshIf_ownRun _ s.access.lineFault).trans (catchUpAfter_ownRun _ a.frame.body)).trans
    (noteHorn_ownRun _)) hreport

theorem failed_noSnapshots {a : Attempt} {s : State} (hs : SnapshotsInFlight s) (ha : s.access.attempt = some a) :
    NoSnapshots (failed a s) := by
  have hreport := reportFailure_noSnapshots (u := failureSteps a s) hs (by rw [bodyInFlight, ha]; rfl)
    (by simp [failureSteps])
  exact OwnRun.noSnapshots ((catchUpFailed_ownRun _ s a.frame.body).trans (noteHorn_ownRun _)) hreport

/-- The build of an attempt where no snapshot stood: an ANNOUNCE carries the pair of each snapshot that it writes (R88). -/
theorem beginAttempt_snapshotsInFlight {c : Choice} {s : State} (hs : NoSnapshots s) :
    SnapshotsInFlight (beginAttempt c s) := by
  by_cases hc : c = .announce
  · subst hc
    intro i pair hi
    rw [beginAttempt_points, if_pos rfl] at hi
    simp only [takeSnapshots, get_ofFn_fin] at hi
    split at hi
    · next hl =>
      obtain rfl := Option.some.inj hi
      refine ⟨by simpa using hl, ?_⟩
      rw [carries_eq, beginAttempt_access]
      exact List.any_eq_true.mpr ⟨entryFor s i, List.mem_map_of_mem hl, by simp [entryFor, pairOf]⟩
    · exact absurd ((hs i).symm.trans hi) (by simp)
  · exact (noSnapshots_congr hs (by rw [beginAttempt_points, if_neg hc])).inFlight

theorem noSnapshots_of_loading {s : State} (hq : LoadingQuiescent s) (hload : s.member.own = .loading) :
    NoSnapshots s := by
  obtain ⟨-, hpoints, -⟩ := hq hload
  intro i
  simp [hpoints, OwnPoint.fresh]

theorem loaded_noSnapshots {s : State} (hq : LoadingQuiescent s) (hload : s.member.own = .loading) :
    NoSnapshots (loaded s) := by
  refine (enterListen_ownRun _).noSnapshots fun i => ?_
  simp only [get_ofFn_fin]
  exact noSnapshots_of_loading hq hload i

/-! ### The agreement -/

/-- What O56 says of snapshots, the frame in flight and the line. -/
def FlightAgrees (s : State) : Prop := LoadingQuiescent s ∧ LineCoherent s ∧ SnapshotsInFlight s

/-- In LOADING the line is at its reset values, and agrees with the Access Controller. -/
theorem lineCoherent_of_loading {s : State} (hq : LoadingQuiescent s) (hload : s.member.own = .loading) :
    LineCoherent s := (carrierAgrees_of_loading hq hload).2.1

theorem exec_lineCoherent {c : Instr} {s t : State} (h : exec c s = .next t) (hq : LoadingQuiescent s)
    (hs : LineCoherent s) : LineCoherent t := by
  by_cases hload : s.member.own = .loading
  · rcases exec_loading_cases h hq hload with hstays | rfl
    · exact lineCoherent_of_loading (exec_loadingQuiescent h hq) hstays
    · exact (loaded_carrierAgrees hq hload).2.1
  by_cases hreset : ∃ cause, c = .stationReset cause
  · obtain ⟨cause, rfl⟩ := hreset
    have hqt := exec_loadingQuiescent h hq
    obtain rfl := Host.Outcome.next.inj h
    exact lineCoherent_of_loading hqt rfl
  have hc : ∀ cause, c ≠ .stationReset cause := fun cause e => hreset ⟨cause, e⟩
  obtain ⟨hoff, hline⟩ := (lineCoherent_iff s).mp hs
  exact (lineCoherent_iff t).mpr ⟨iff_of_false (exec_receiver_ne_off h hc (mt hoff.mp hload)) (exec_ne_loading h hc hload),
    exec_lineAgrees h hc hload hline⟩

theorem tick_lineCoherent {s : State} (hs : LineCoherent s) : LineCoherent (tickCounters (tickLine s)) := by
  obtain ⟨hoff, hline⟩ := (lineCoherent_iff s).mp hs
  refine (lineCoherent_iff _).mpr ⟨by simpa [tickCounters] using hoff, ?_⟩
  simpa using (tickLine_lineAgrees hline).congr (b := (tickCounters (tickLine s)).access)
    ⟨by simp [tickCounters], by simp [tickCounters], by simp [tickCounters]⟩

theorem exec_snapshotsInFlight {c : Instr} {s t : State} (h : exec c s = .next t) (hs : FlightAgrees s) :
    SnapshotsInFlight t := by
  obtain ⟨hq, hline, hsnap⟩ := hs
  by_cases hload : s.member.own = .loading
  · rcases exec_loading_cases h hq hload with hstays | rfl
    · exact (noSnapshots_of_loading (exec_loadingQuiescent h hq) hstays).inFlight
    · exact (loaded_noSnapshots hq hload).inFlight
  by_cases hreset : ∃ cause, c = .stationReset cause
  · obtain ⟨cause, rfl⟩ := hreset
    have hqt := exec_loadingQuiescent h hq
    obtain rfl := Host.Outcome.next.inj h
    exact (noSnapshots_of_loading hqt rfl).inFlight
  by_cases hrelease : ∃ straps, c = .releaseOfReset straps
  · obtain ⟨straps, rfl⟩ := hrelease
    simp only [exec, execReleaseOfReset] at h
    split at h <;> obtain rfl := Host.Outcome.next.inj h <;> exact hsnap
  by_cases hslot : ∃ cls, c = .slotStart cls
  · obtain ⟨cls, rfl⟩ := hslot
    rcases exec_slotStart_cases h with rfl | ⟨l, hl, rfl | ⟨c, -, -, rfl⟩⟩
    · exact hsnap
    · exact hsnap
    · have hnone : s.access.attempt = none := (((lineCoherent_iff s).mp hline).2.ladder (by simp [hl])).2
      exact beginAttempt_snapshotsInFlight (s := slotBegun cls l s)
        (noSnapshots_congr (noSnapshots_of_inFlight hsnap (by simp [bodyInFlight, hnone])) rfl)
  by_cases hsuccess : c = .attemptSuccess
  · subst hsuccess
    rcases exec_attemptSuccess_cases h with rfl | ⟨a, ha, -, -, -, rfl⟩
    · exact hsnap
    · exact (succeeded_noSnapshots hsnap ha).inFlight
  by_cases hfailure : c = .attemptFailure
  · subst hfailure
    rcases exec_attemptFailure_cases h with rfl | ⟨a, ha, -, rfl⟩
    · exact hsnap
    · exact (failed_noSnapshots hsnap ha).inFlight
  exact (exec_ownRun h (fun _ e => hreset ⟨_, e⟩) (fun _ e => hrelease ⟨_, e⟩) (fun _ e => hslot ⟨_, e⟩)
    fun _ => hload).snapshotsStand.inFlight
    (exec_bodyInFlight h (fun _ e => hreset ⟨_, e⟩) (fun _ e => hslot ⟨_, e⟩) hsuccess hfailure hload) hsnap

/-- Settles O56: no operation writes a snapshot but the build of the ANNOUNCE that carries it, and both ends of that attempt
leave none. -/
theorem snapshotEqualsWhatTheFrameCarries : Obligations.SnapshotEqualsWhatTheFrameCarries := fun _ _ hs h =>
  step_keeps (Inv := FlightAgrees) (fun _ _ => id)
    (fun _ _ _ h hs => ⟨exec_loadingQuiescent h hs.1, exec_lineCoherent h hs.1 hs.2.1, exec_snapshotsInFlight h hs⟩)
    (fun _ _ hs => ⟨tick_loadingQuiescent hs.1, tick_lineCoherent hs.2.1,
      SnapshotsStand.inFlight (fun i pair hi => ⟨by simpa using hi, fun hl => by simpa using hl⟩)
        (by simp [bodyInFlight, tickCounters]) hs.2.2⟩) hs h

end Sys2Proof.Machine
end

section
/-! PROOFS. The Presence Table, the own state and the remote rows: the agreement that every step keeps (O57). -/

namespace Sys2Proof.Machine

open Sys2Proof.Safety

/-! ### Remote rows

Most operations leave every remote row as it is, and say so here once. -/

section Remote

variable (s : State)

@[simp] theorem catchUpFrom_remote (before : State) : (catchUpFrom before s).mirror.remote = s.mirror.remote := by
  unfold catchUpFrom
  split <;> simp

@[simp] theorem enterWarning_remote : (enterWarning s).mirror.remote = s.mirror.remote := by
  simp [enterWarning]

@[simp] theorem supplyWarned_remote : (supplyWarned s).mirror.remote = s.mirror.remote := by
  unfold supplyWarned
  split <;> simp

@[simp] theorem enterListen_remote : (enterListen s).mirror.remote = s.mirror.remote := by
  simp only [enterListen]
  split <;> simp

@[simp] theorem leaveWarning_remote : (leaveWarning s).mirror.remote = s.mirror.remote := by
  unfold leaveWarning
  split <;> simp

@[simp] theorem supplyRecovered_remote : (supplyRecovered s).mirror.remote = s.mirror.remote := by
  unfold supplyRecovered
  (repeat' split) <;> simp

@[simp] theorem enterDuplicate_remote : (enterDuplicate s).mirror.remote = s.mirror.remote := by
  unfold enterDuplicate
  split <;> simp

@[simp] theorem followPresence_remote : (followPresence s).mirror.remote = s.mirror.remote := by
  unfold followPresence
  split <;> simp

@[simp] theorem versionedClaim_remote (moveOf : PointMode → PointState → Option PointState) (i : PointIndex)
    (v : Version) : (versionedClaim moveOf i v s).mirror.remote = s.mirror.remote := by
  rcases versionedClaim_cases moveOf i v s with h | ⟨new, -, -, -, h⟩ <;> rw [h]
  exact stateChange_remote i new s

@[simp] theorem takePairs_remote (moveOf : PointMode → PointState → Option PointState) (pairs : List ReqPair) :
    (takePairs (versionedClaim moveOf) pairs s).mirror.remote = s.mirror.remote := by
  unfold takePairs
  exact foldl_keeps (proj := fun s : State => s.mirror.remote) (fun s _ => versionedClaim_remote s moveOf _ _) _ _

@[simp] theorem applyMove_remote (i : PointIndex) (move : Option PointState) :
    (applyMove i move s).mirror.remote = s.mirror.remote := by
  cases move with
  | none => rfl
  | some new => exact stateChange_remote i new s

@[simp] theorem samplePoint_remote (longest : DebounceClass) (levels : Mask) (i : PointIndex) :
    (samplePoint longest levels s i).mirror.remote = s.mirror.remote := by
  rw [samplePoint_eq]
  split
  · exact applyMove_remote _ i _
  · rfl

@[simp] theorem samplePoints_remote (longest : DebounceClass) (levels : Mask) (l : List PointIndex) :
    (l.foldl (samplePoint longest levels) s).mirror.remote = s.mirror.remote :=
  foldl_keeps (proj := fun s : State => s.mirror.remote) (fun s i => samplePoint_remote s longest levels i) _ _

@[simp] theorem settlePoint_remote (i : PointIndex) : (settlePoint s i).mirror.remote = s.mirror.remote := by
  unfold settlePoint
  split <;> simp

@[simp] theorem settleAll_remote (is : List PointIndex) :
    (is.foldl settlePoint s).mirror.remote = s.mirror.remote :=
  foldl_keeps (proj := fun s : State => s.mirror.remote) settlePoint_remote _ _

@[simp] theorem departSucceeded_remote : (departSucceeded s).mirror.remote = s.mirror.remote := by
  unfold departSucceeded
  split <;> simp [enterDeparted, stopPresence]

@[simp] theorem departFailed_remote : (departFailed s).mirror.remote = s.mirror.remote := by
  simp only [departFailed]
  (repeat' split) <;> simp [enterDeparted, stopPresence]

@[simp] theorem catchUpAfter_remote (b : Body) : (catchUpAfter b s).mirror.remote = s.mirror.remote := by
  unfold catchUpAfter
  split <;> simp

@[simp] theorem catchUpFailed_remote (before : State) (b : Body) :
    (catchUpFailed before b s).mirror.remote = s.mirror.remote := by
  unfold catchUpFailed
  split <;> simp

@[simp] theorem reportFailure_remote (b : Body) : (reportFailure b s).mirror.remote = s.mirror.remote := by
  cases b <;> simp [reportFailure]

@[simp] theorem localClaims_remote (moveOf : PointMode → PointState → Option PointState) (test : PointState → Bool)
    (l : List PointIndex) :
    (l.foldl (localClaim (versionedClaim moveOf) test) s).mirror.remote = s.mirror.remote := by
  refine foldl_keeps (proj := fun s : State => s.mirror.remote) (fun s i => ?_) _ _
  unfold localClaim
  split <;> simp

@[simp] theorem pressKack_remote : (pressKack s).mirror.remote = s.mirror.remote := by
  simp [pressKack, acknowledge_eta]

@[simp] theorem pressKrst_remote : (pressKrst s).mirror.remote = s.mirror.remote := by
  simp [pressKrst, resetClaim_eta]

@[simp] theorem sampleKack_remote (level : Bool) : (sampleKack level s).mirror.remote = s.mirror.remote := by
  simp only [sampleKack]
  split <;> simp

@[simp] theorem sampleKrst_remote (level : Bool) : (sampleKrst level s).mirror.remote = s.mirror.remote := by
  simp only [sampleKrst]
  split <;> simp

@[simp] theorem takeOwnNumberFrame_remote : (takeOwnNumberFrame s).mirror.remote = s.mirror.remote := by
  simp [takeOwnNumberFrame]

/-- A silence publication clears the horn flag of every remote row (R109). -/
theorem silencePublication_remote (p : StationNo) (i : PointIndex) :
    (silencePublication s).mirror.remote[p][i] = { s.mirror.remote[p][i] with horn := false } := by
  simp only [silencePublication, get_ofFn_fin]

end Remote

/-! ### What few commands write: the straps, the Presence Table, the remote rows -/

/-- A station reset and the release of reset apart, no command writes the strap latch (R160). -/
theorem exec_straps {c : Instr} {s t : State} (h : exec c s = .next t) (hc : ∀ cause, c ≠ .stationReset cause)
    (hr : ∀ pins, c ≠ .releaseOfReset pins) : t.startup.straps = s.startup.straps := by
  cases c with
  | stationReset cause => exact absurd rfl (hc cause)
  | releaseOfReset pins => exact absurd rfl (hr pins)
  | endOfLoading | cdiSample | supplyWarningEvent | supplyRecoveryEvent =>
    simp only [exec, execEndOfLoading, execCdiSample, execSupplyWarningEvent, execSupplyRecoveryEvent] at h
    split at h <;> obtain rfl := Host.Outcome.next.inj h <;> simp
  | _ => rw [exec_startup h rfl]

/-- The commands that can write the Presence Table or more of a remote row than its horn flag. -/
def touchesPeers : Instr → Bool
  | .stationReset _ => true
  | .endOfLoading => true
  | .lostTimerExpiry _ => true
  | .receivePresence _ _ => true
  | .receiveHello _ _ => true
  | .receiveAnnounce _ _ => true
  | .receiveAckReq _ _ _ => true
  | .receiveResetReq _ _ _ => true
  | .receiveRefreshReq _ _ => true
  | .receiveSilence _ => true
  | .receiveDepart _ => true
  | _ => false

/-- The remote rows stand, or every one of them loses its horn flag. -/
def RowsStand (s t : State) : Prop :=
  t.mirror.remote = s.mirror.remote ∨
    ∀ p i : Fin 16, t.mirror.remote[p][i] = { s.mirror.remote[p][i] with horn := false }

theorem pressKsil_rowsStand (s : State) : RowsStand s (pressKsil s) := by
  simp only [pressKsil]
  split
  · exact .inr (silencePublication_remote _)
  · exact .inl rfl

theorem sampleKsil_rowsStand (level : Bool) (s : State) : RowsStand s (sampleKsil level s) := by
  simp only [sampleKsil]
  split
  · exact pressKsil_rowsStand _
  · exact .inl rfl

theorem reportSuccess_rowsStand (b : Body) (s : State) : RowsStand s (reportSuccess b s) := by
  cases b with
  | silence => exact .inr (silencePublication_remote _)
  | _ => exact .inl (by simp [reportSuccess])

theorem RowsStand.congr {s s' t t' : State} (h : RowsStand s t) (hs : s.mirror.remote = s'.mirror.remote)
    (ht : t'.mirror.remote = t.mirror.remote) : RowsStand s' t' := by
  unfold RowsStand at h ⊢
  rw [ht, ← hs]
  exact h

/-- All other commands leave the Presence Table as it is, and of the remote rows all but the horn flags. -/
theorem exec_peers {c : Instr} {s t : State} (h : exec c s = .next t) (hc : touchesPeers c = false) :
    t.peers = s.peers ∧ RowsStand s t := by
  cases c with
  | stationReset | endOfLoading | lostTimerExpiry | receivePresence | receiveHello | receiveAnnounce | receiveAckReq
  | receiveResetReq | receiveRefreshReq | receiveSilence | receiveDepart =>
    simp [touchesPeers] at hc
  | fieldInputSample longest levels =>
    refine ⟨(exec_fieldInputSample_frame h).2.2.2.2.1, .inl ?_⟩
    cases hl : loading s with
    | true =>
      rw [exec_fieldInputSample_loading longest levels s hl] at h
      obtain rfl := Host.Outcome.next.inj h
      rfl
    | false =>
      rw [exec_fieldInputSample_running longest levels s hl] at h
      obtain rfl := Host.Outcome.next.inj h
      simp
  | keySample levels =>
    refine ⟨(exec_keySample_frame h).2.2.2.2.2.1, ?_⟩
    cases hl : loading s with
    | true =>
      rw [exec_keySample_loading levels s hl] at h
      obtain rfl := Host.Outcome.next.inj h
      exact .inl rfl
    | false =>
      rw [exec_keySample_running levels s hl] at h
      obtain rfl := Host.Outcome.next.inj h
      have hsilence := sampleKsil_rowsStand levels.ksil
        (sampleKrst levels.krst (sampleKack levels.kack { s with pins := { s.pins with keys := levels } }))
      exact hsilence.congr (by simp) (by simp)
  | attemptSuccess =>
    rcases exec_attemptSuccess_cases h with rfl | ⟨a, -, -, -, -, rfl⟩
    · exact ⟨rfl, .inl rfl⟩
    · exact ⟨by simp [succeeded], (reportSuccess_rowsStand a.frame.body (successSteps a.frame s)).congr (by simp)
        (by simp [succeeded])⟩
  | attemptFailure =>
    rcases exec_attemptFailure_cases h with rfl | ⟨a, -, -, rfl⟩
    · exact ⟨rfl, .inl rfl⟩
    · exact ⟨by simp [failed], .inl (by simp [failed])⟩
  | ownStartMarkEnd =>
    rcases exec_ownStartMarkEnd_cases h with rfl | ⟨a, -, -, -, rfl⟩ <;> exact ⟨rfl, .inl rfl⟩
  | collision half =>
    rcases exec_collision_cases h with rfl | ⟨a, -, -, rfl⟩ <;> exact ⟨rfl, .inl rfl⟩
  | slotStart cls =>
    rcases exec_slotStart_cases h with rfl | ⟨l, -, rfl | ⟨c, -, -, rfl⟩⟩
    · exact ⟨rfl, .inl rfl⟩
    · exact ⟨rfl, .inl rfl⟩
    · exact ⟨by simp [slotBegun], .inl (by simp [slotBegun])⟩
  | receiveOwnNumberFrame | jamEvent | listenWindowEnd | supplyWarningEvent | supplyRecoveryEvent | damagedFrame | spike
  | unframedCarrier =>
    simp only [exec, execReceiveOwnNumberFrame, execJamEvent, execListenWindowEnd, execSupplyWarningEvent,
      execSupplyRecoveryEvent, execDamagedFrame, execSpike, execUnframedCarrier] at h
    split at h <;> obtain rfl := Host.Outcome.next.inj h <;> simp [RowsStand]
  | releaseOfReset | lineBusy | lineQuiet | ladderRepeat | ladderStartAfterUnheardAttempt | presenceTimerExpiry
  | startOfFrame | firstHighSample | cdiSample | commonPeriodStart | toneInstant =>
    simp only [exec, execReleaseOfReset, execLineBusy, execLineQuiet, execLadderRepeat, execLadderStartAfterUnheardAttempt,
      execPresenceTimerExpiry, execStartOfFrame, execFirstHighSample, execCdiSample, execCommonPeriodStart,
      execToneInstant] at h
    (repeat' split at h) <;> obtain rfl := Host.Outcome.next.inj h <;> exact ⟨rfl, .inl rfl⟩

/-! ### GROUP and SOLO -/

/-- GROUP and SOLO agree with the Presence Table (R65); other states say nothing of it. -/
def SoloAgrees (own : Membership) (present : Bool) : Prop :=
  (own = .solo → present = false) ∧ (own = .group → present = true)

theorem soloAgrees_presenceRule (s : State) : SoloAgrees (presenceRule s) (anyPresent s) := by
  rcases presenceRule_cases s with ⟨hrule, hany⟩ | ⟨hrule, hany⟩ <;> simp [SoloAgrees, hrule, hany]

theorem soloAgrees_of_ne {own : Membership} {present : Bool} (hgroup : own ≠ .group) (hsolo : own ≠ .solo) :
    SoloAgrees own present :=
  ⟨fun e => absurd e hsolo, fun e => absurd e hgroup⟩

theorem anyPresent_congr {s t : State} (hpeers : t.peers = s.peers) (hnumber : ownNumber t = ownNumber s) :
    anyPresent t = anyPresent s := by
  unfold anyPresent isPresent
  rw [hpeers, hnumber]

theorem enterListen_soloAgrees (s : State) (present : Bool) : SoloAgrees (enterListen s).member.own present := by
  rw [enterListen_member]
  split <;> exact soloAgrees_of_ne (by simp) (by simp)

theorem leaveWarning_soloAgrees (s : State) : SoloAgrees (leaveWarning s).member.own (anyPresent s) := by
  rw [leaveWarning_member]
  split
  · exact enterListen_soloAgrees s _
  · exact soloAgrees_presenceRule s

section Solo

variable {s : State} (hs : SoloAgrees s.member.own (anyPresent s))

include hs

theorem supplyWarned_soloAgrees : SoloAgrees (supplyWarned s).member.own (anyPresent s) := by
  rw [supplyWarned_member]
  (repeat' split)
  · exact soloAgrees_of_ne (by simp) (by simp)
  · exact hs
  · exact hs

theorem supplyRecovered_soloAgrees : SoloAgrees (supplyRecovered s).member.own (anyPresent s) := by
  rw [supplyRecovered_member]
  (repeat' split)
  · exact hs
  · exact leaveWarning_soloAgrees s
  · exact enterListen_soloAgrees s _
  · exact hs

theorem enterDuplicate_soloAgrees : SoloAgrees (enterDuplicate s).member.own (anyPresent s) := by
  rw [enterDuplicate_member]
  split
  · exact hs
  · exact soloAgrees_of_ne (by simp) (by simp)

theorem departFailed_soloAgrees : SoloAgrees (departFailed s).member.own (anyPresent s) := by
  simp only [departFailed]
  (repeat' split)
  · exact leaveWarning_soloAgrees s
  · exact soloAgrees_of_ne (by simp) (by simp)
  · exact hs

theorem reportSuccess_soloAgrees (b : Body) : SoloAgrees (reportSuccess b s).member.own (anyPresent s) := by
  cases b with
  | depart =>
    simp only [reportSuccess, departSucceeded_member]
    split
    · exact enterListen_soloAgrees _ _
    · exact soloAgrees_of_ne (by simp) (by simp)
  | hello m => simpa [reportSuccess, helloSucceeded] using hs
  | _ => simpa [reportSuccess] using hs

theorem reportFailure_soloAgrees (b : Body) : SoloAgrees (reportFailure b s).member.own (anyPresent s) := by
  cases b with
  | depart => exact departFailed_soloAgrees hs
  | _ => simpa [reportFailure] using hs

end Solo

/-- Where the Presence Table stands, every command keeps GROUP and SOLO in agreement with it (R65). -/
theorem exec_soloAgrees {c : Instr} {s t : State} (h : exec c s = .next t) (hc : touchesPeers c = false)
    (hs : SoloAgrees s.member.own (anyPresent s)) : SoloAgrees t.member.own (anyPresent s) := by
  by_cases hm : touchesMember c = false
  · rw [exec_member h hm]
    exact hs
  cases c with
  | stationReset | endOfLoading | lostTimerExpiry | receivePresence | receiveHello | receiveAnnounce | receiveAckReq
  | receiveResetReq | receiveRefreshReq | receiveSilence | receiveDepart =>
    simp [touchesPeers] at hc
  | attemptSuccess =>
    rcases exec_attemptSuccess_cases h with rfl | ⟨a, -, -, -, -, rfl⟩
    · exact hs
    · have hany : anyPresent (successSteps a.frame s) = anyPresent s := anyPresent_congr (by simp) (by simp [ownNumber])
      have hreport := reportSuccess_soloAgrees (s := successSteps a.frame s) (by simpa [hany] using hs) a.frame.body
      rw [hany] at hreport
      simpa [succeeded] using hreport
  | attemptFailure =>
    rcases exec_attemptFailure_cases h with rfl | ⟨a, -, -, rfl⟩
    · exact hs
    · have hany : anyPresent (failureSteps a s) = anyPresent s := anyPresent_congr (by simp) (by simp [ownNumber])
      have hreport := reportFailure_soloAgrees (s := failureSteps a s) (by simpa [hany] using hs) a.frame.body
      rw [hany] at hreport
      simpa [failed] using hreport
  | listenWindowEnd =>
    simp only [exec, execListenWindowEnd] at h
    split at h <;> obtain rfl := Host.Outcome.next.inj h
    · simpa using soloAgrees_presenceRule s
    · exact hs
  | supplyWarningEvent =>
    simp only [exec, execSupplyWarningEvent] at h
    split at h <;> obtain rfl := Host.Outcome.next.inj h
    · exact supplyWarned_soloAgrees (s := { s with startup := { s.startup with supplyWarning := true } }) hs
    · exact hs
  | supplyRecoveryEvent =>
    simp only [exec, execSupplyRecoveryEvent] at h
    split at h <;> obtain rfl := Host.Outcome.next.inj h
    · exact supplyRecovered_soloAgrees (s := { s with startup := { s.startup with supplyWarning := false } }) hs
    · exact hs
  | receiveOwnNumberFrame =>
    simp only [exec, execReceiveOwnNumberFrame] at h
    split at h <;> obtain rfl := Host.Outcome.next.inj h
    · rw [takeOwnNumberFrame, enterDuplicate_member]
      split
      · simpa using hs
      · exact soloAgrees_of_ne (by simp) (by simp)
    · exact hs
  | _ => exact absurd rfl hm

/-! ### Entries and rows -/

/-- An entry's timer, state and last sequence agree (R72, R78). -/
def EntryCoherent (e : PeerEntry) : Prop :=
  (e.silence.running ↔ e.state = .present) ∧ (e.state ≠ .present → e.silence = .stopped) ∧
    (e.lastSequence.isSome ↔ e.state ≠ .absent)

/-- A row agrees with the state of its owner's entry (R96, R106, R107); `own` marks a place that is no row. -/
def RowAgrees (own : Bool) (owner : PeerState) (row : MirrorRow) : Prop :=
  (own = true → row = .vacant) ∧ RowCoherent row ∧ (owner = .absent → row = .vacant) ∧
    (row.stale ↔ row.content.isSome ∧ (owner = .lost ∨ owner = .departed))

theorem peersCoherent_iff (s : State) :
    PeersCoherent s ↔ ∀ p : Fin 16, (p = ownNumber s → s.peers[p] = .reset) ∧ EntryCoherent s.peers[p] :=
  ⟨fun ⟨hown, hentries⟩ p => ⟨fun e => e ▸ hown, hentries p⟩, fun h => ⟨(h (ownNumber s)).1 rfl, fun p => (h p).2⟩⟩

theorem rowsCoherent_iff (s : State) :
    RowsCoherent s ↔ ∀ p i : Fin 16, RowAgrees (p == ownNumber s) s.peers[p].state s.mirror.remote[p][i] := by
  simp only [RowAgrees, beq_iff_eq]

theorem soloCoherent_iff (s : State) : SoloCoherent s ↔ SoloAgrees s.member.own (anyPresent s) := Iff.rfl

/-- What O57 says of the Presence Table, the own state and the rows. -/
def TableAgrees (s : State) : Prop := PeersCoherent s ∧ SoloCoherent s ∧ RowsCoherent s

theorem rowAgrees_vacant (own : Bool) (owner : PeerState) : RowAgrees own owner .vacant := by
  simp [RowAgrees, RowCoherent, MirrorRow.vacant]

theorem rowAgrees_silenced {own : Bool} {owner : PeerState} {row : MirrorRow} (h : RowAgrees own owner row) :
    RowAgrees own owner { row with horn := false } := by
  obtain ⟨hown, ⟨hvacant, -⟩, habsent, hstale⟩ := h
  refine ⟨fun e => ?_, ⟨fun e => ?_, by simp⟩, fun e => ?_, hstale⟩
  · rw [hown e]; rfl
  · rw [hvacant e]; rfl
  · rw [habsent e]; rfl

/-- A row of a PRESENT peer agrees exactly if it is coherent and not stale. -/
theorem rowAgrees_present_iff (row : MirrorRow) :
    RowAgrees false .present row ↔ RowCoherent row ∧ row.stale = false := by
  simp [RowAgrees]

/-- The rows of a peer that becomes PRESENT lose their stale marks (R107). -/
theorem rowAgrees_returned {owner : PeerState} {row : MirrorRow} (h : RowAgrees false owner row) :
    RowAgrees false .present (returned (owner == .present) row) := by
  obtain ⟨-, ⟨hvacant, hhorn⟩, -, hstale⟩ := h
  rw [rowAgrees_present_iff]
  cases owner with
  | present => exact ⟨⟨hvacant, hhorn⟩, by simpa [returned] using hstale⟩
  | absent | lost | departed =>
    refine ⟨⟨fun e => ?_, hhorn⟩, rfl⟩
    have hrow := hvacant e
    subst hrow
    rfl

/-- The rows of a peer that becomes LOST or DEPARTED become stale (R106). -/
theorem rowAgrees_markStale {owner gone : PeerState} {row : MirrorRow} (h : RowAgrees false owner row)
    (hgone : gone = .lost ∨ gone = .departed) :
    RowAgrees false gone { row with stale := row.stale || row.content.isSome } := by
  obtain ⟨-, ⟨hvacant, hhorn⟩, -, hstale⟩ := h
  refine ⟨by simp, ⟨fun e => ?_, hhorn⟩, fun e => ?_, ?_⟩
  · have hrow := hvacant e
    subst hrow
    rfl
  · rcases hgone with h | h <;> rw [h] at e <;> cases e
  · simp only [Bool.or_eq_true, hgone, and_true]
    exact ⟨fun h => h.elim (fun h => (hstale.mp h).1) id, .inr⟩

/-- The row after an entry is coherent and not stale (R99, R100). -/
theorem rowAgrees_entry (row : MirrorRow) (e : AnnounceEntry) : RowAgrees false .present (rowAfterEntry row e) := by
  rw [rowAgrees_present_iff]
  simp +contextual [RowCoherent, rowAfterEntry, rowIs]

/-! ### The commands that leave the Presence Table -/

theorem tableAgrees_stands {s t : State} (hs : TableAgrees s) (hnumber : ownNumber t = ownNumber s)
    (hpeers : t.peers = s.peers) (hrows : RowsStand s t) (hown : SoloAgrees t.member.own (anyPresent s)) :
    TableAgrees t := by
  obtain ⟨hp, -, hr⟩ := hs
  refine ⟨?_, ?_, ?_⟩
  · rw [peersCoherent_iff] at hp ⊢
    rw [hpeers, hnumber]
    exact hp
  · rw [soloCoherent_iff, anyPresent_congr hpeers hnumber]
    exact hown
  · rw [rowsCoherent_iff] at hr ⊢
    intro p i
    rw [hpeers, hnumber]
    rcases hrows with h | h
    · rw [h]
      exact hr p i
    · rw [h]
      exact rowAgrees_silenced (hr p i)

/-! ### A valid frame of a peer -/

theorem entryCoherent_entryAfter (kind : FrameKind) (h : Header) : EntryCoherent (entryAfter kind h) := by
  by_cases hk : kind = .depart <;> simp [EntryCoherent, entryAfter, hk, Timer.started, Timer.stopped]

/-- Writing the entry of a peer. -/
theorem peersCoherent_set {s t : State} {p : StationNo} {e : PeerEntry} (hs : PeersCoherent s)
    (hnumber : ownNumber t = ownNumber s) (hp : p ≠ ownNumber s) (hpeers : t.peers = s.peers.set p e)
    (he : EntryCoherent e) : PeersCoherent t := by
  rw [peersCoherent_iff] at hs ⊢
  rw [hpeers, hnumber]
  intro q
  rw [get_set_fin]
  split
  · next hq => exact ⟨fun e => absurd (hq.symm.trans e) hp, he⟩
  · exact hs q

/-- An entry that keeps its state leaves the presence of peers as it is. -/
theorem anyPresent_set {s t : State} {p : StationNo} {e : PeerEntry} (hnumber : ownNumber t = ownNumber s)
    (hpeers : t.peers = s.peers.set p e) (hstate : e.state = s.peers[p].state) : anyPresent t = anyPresent s := by
  have hsame : isPresent t = isPresent s := by
    funext q
    unfold isPresent
    rw [hpeers, hnumber, get_set_fin]
    split
    · next hq => rw [hstate, hq]
    · rfl
  unfold anyPresent
  rw [hsame]

theorem peerHeard_peers (h : Header) (kind : FrameKind) (s : State) :
    (peerHeard h kind s).peers = s.peers.set h.sender (entryAfter kind h) := by
  simp only [peerHeard]
  (repeat' split) <;> simp

/-- The own state follows the Presence Table at a frame of a peer (R65, R73). -/
theorem peerHeard_soloAgrees {h : Header} {kind : FrameKind} {s t : State}
    (hs : SoloAgrees s.member.own (anyPresent s)) (hnumber : ownNumber t = ownNumber s)
    (hpeers : t.peers = s.peers.set h.sender (entryAfter kind h)) :
    SoloAgrees (peerHeard h kind s).member.own (anyPresent t) := by
  rw [peerHeard_member]
  split
  · rw [anyPresent_congr (s := { s with peers := s.peers.set h.sender (entryAfter kind h) }) hpeers hnumber]
    exact soloAgrees_presenceRule _
  · next hstays =>
    by_cases hstate : s.peers[h.sender].state = (entryAfter kind h).state
    · rw [anyPresent_set hnumber hpeers hstate.symm]
      exact hs
    · exact soloAgrees_of_ne (fun e => hstays ⟨hstate, .inl e⟩) (fun e => hstays ⟨hstate, .inr e⟩)

section Requests

variable (p target : StationNo) (pairs : List ReqPair) (s : State)

@[simp] theorem takeBody_ackReq_remote : (takeBody p (.ackReq target pairs) s).mirror.remote = s.mirror.remote := by
  simp only [takeBody]
  split
  · exact takePairs_remote s acknowledgeMove pairs
  · rfl

@[simp] theorem takeBody_resetReq_remote : (takeBody p (.resetReq target pairs) s).mirror.remote = s.mirror.remote := by
  simp only [takeBody]
  split
  · exact takePairs_remote s resetMove pairs
  · rfl

@[simp] theorem takeBody_refreshReq_remote : (takeBody p (.refreshReq target) s).mirror.remote = s.mirror.remote := by
  simp only [takeBody]
  split <;> rfl

end Requests

/-- The rows of a frame other than a DEPART: those of other stations stand, and those of its sender agree with a PRESENT
peer, which every body leaves so. -/
theorem takeBody_rowAgrees {p : StationNo} {b : Body} {s : State}
    (hrows : ∀ i : Fin 16, RowAgrees false .present s.mirror.remote[p][i]) (i : Fin 16) :
    RowAgrees false .present (takeBody p b s).mirror.remote[p][i] := by
  cases b with
  | presence m =>
    simp only [takeBody, vacateMasked, setRows_get, if_true]
    split
    · exact hrows i
    · exact rowAgrees_vacant _ _
  | hello m =>
    simp only [takeBody, fullRefresh_frame, vacateAll, setRows_get, if_true]
    exact rowAgrees_vacant _ _
  | announce es =>
    simp only [takeBody]
    refine List.foldlRecOn es (takeEntry p) (motive := fun m => RowAgrees false .present m.remote[p][i]) (hrows i) ?_
    intro m hm e _
    rw [takeEntry_remote]
    split
    · exact rowAgrees_entry _ _
    · exact hm
  | ackReq target pairs => simpa only [takeBody_ackReq_remote] using hrows i
  | resetReq target pairs => simpa only [takeBody_resetReq_remote] using hrows i
  | refreshReq target => simpa only [takeBody_refreshReq_remote] using hrows i
  | silence =>
    simp only [takeBody, silencePublication_remote]
    exact rowAgrees_silenced (hrows i)
  | depart => exact hrows i

/-- Rows of other stations change at most in their horn flag. -/
theorem takeBody_remote_of_ne {p q : StationNo} (b : Body) (s : State) (hq : q ≠ p) (i : Fin 16) :
    (takeBody p b s).mirror.remote[q][i] = s.mirror.remote[q][i] ∨
      (takeBody p b s).mirror.remote[q][i] = { s.mirror.remote[q][i] with horn := false } := by
  cases b with
  | presence m => exact .inl (by simp only [takeBody, vacateMasked, setRows_get, if_neg hq])
  | hello m => exact .inl (by simp only [takeBody, fullRefresh_frame, vacateAll, vacateMasked, setRows_get, if_neg hq])
  | announce es => exact .inl (foldl_takeEntry_remote_of_not_mem p es s.mirror (.inl hq))
  | ackReq target pairs => exact .inl (by simp only [takeBody_ackReq_remote])
  | resetReq target pairs => exact .inl (by simp only [takeBody_resetReq_remote])
  | refreshReq target => exact .inl (by simp only [takeBody_refreshReq_remote])
  | silence => exact .inr (silencePublication_remote s q i)
  | depart => exact .inl rfl

/-- A DEPART of a peer hands on a departure where the entry was not DEPARTED before, and asks for nothing (R74, Table 45). -/
theorem peerHeard_depart (h : Header) (s : State) :
    peerHeard h .depart s =
      if s.peers[h.sender].state = .departed then { s with peers := s.peers.set h.sender (entryAfter .depart h) }
      else lostPresence h.sender { s with peers := s.peers.set h.sender (entryAfter .depart h) } := by
  have hstate : (entryAfter .depart h).state = .departed := rfl
  have hno : wantsRefresh s.peers[h.sender] .depart h.sequence = false := rfl
  unfold peerHeard
  dsimp only
  rw [hno, if_neg Bool.false_ne_true, hstate, if_neg (by decide : ¬PeerState.departed = .present)]

theorem markStale_remote (p q : StationNo) (i : PointIndex) (m : MirrorTable) :
    (markStale p m).remote[q][i] =
      if q = p then { m.remote[p][i] with stale := m.remote[p][i].stale || m.remote[p][i].content.isSome }
      else m.remote[q][i] :=
  setRows_get ..

/-- The remote rows once a DEPART is heard: those of its sender become stale, if its entry was not DEPARTED (R74, R106). -/
theorem peerHeard_depart_remote (h : Header) (s : State) (q : StationNo) (i : PointIndex) :
    (peerHeard h .depart s).mirror.remote[q][i] =
      if s.peers[h.sender].state ≠ .departed ∧ q = h.sender then
        { s.mirror.remote[q][i] with stale := s.mirror.remote[q][i].stale || s.mirror.remote[q][i].content.isSome }
      else s.mirror.remote[q][i] := by
  rw [peerHeard_depart]
  by_cases hstate : s.peers[h.sender].state = .departed
  · rw [if_pos hstate, if_neg fun h => h.1 hstate]
  · rw [if_neg hstate, lostPresence, followPresence_remote, markStale_remote]
    by_cases hq : q = h.sender
    · subst hq
      rw [if_pos rfl, if_pos ⟨hstate, rfl⟩]
    · rw [if_neg hq, if_neg fun h => hq h.2]

theorem peerHeard_rowAgrees {h : Header} {kind : FrameKind} {s : State} (hp : h.sender ≠ ownNumber s)
    (hs : RowsCoherent s) (i : Fin 16) :
    RowAgrees false (entryAfter kind h).state (peerHeard h kind s).mirror.remote[h.sender][i] := by
  have hrow := (rowsCoherent_iff s).mp hs h.sender i
  rw [beq_false_of_ne hp] at hrow
  by_cases hkind : kind = .depart
  · subst hkind
    rw [peerHeard_depart_remote]
    split
    · exact rowAgrees_markStale hrow (.inr rfl)
    · next hstays =>
      have hstate : s.peers[h.sender].state = .departed := by_contra fun hne => hstays ⟨hne, rfl⟩
      rw [hstate] at hrow
      exact hrow
  · obtain ⟨-, hmirror⟩ := peerHeard_points_mirror (h := h) hkind hp
    rw [hmirror, mirrorHeard_remote, if_pos rfl, show (entryAfter kind h).state = .present from if_neg hkind]
    exact rowAgrees_returned hrow

theorem peerHeard_remote_of_ne {h : Header} {kind : FrameKind} {s : State} (hp : h.sender ≠ ownNumber s)
    {q : StationNo} (hq : q ≠ h.sender) (i : Fin 16) :
    (peerHeard h kind s).mirror.remote[q][i] = s.mirror.remote[q][i] := by
  by_cases hkind : kind = .depart
  · subst hkind
    rw [peerHeard_depart_remote, if_neg fun h => hq h.2]
  · obtain ⟨-, hmirror⟩ := peerHeard_points_mirror (h := h) hkind hp
    rw [hmirror, mirrorHeard_remote, if_neg hq]

/-- The remote rows after a frame of a peer: the presence hand-ons come first, then the body (Table 27). -/
theorem takePeerFrame_mirror (f : Frame) (s : State) :
    (takePeerFrame f s).mirror =
      (takeBody f.header.sender f.body
        (peerHeard f.header (bodyKind f.body) (rotateTo f.header.sender s))).mirror := by
  simp [takePeerFrame]

/-- The body of a frame leaves the rows of its sender in agreement with its entry. -/
theorem takeBody_heard_rowAgrees {f : Frame} {s : State}
    (hheard : ∀ i : Fin 16, RowAgrees false (entryAfter (bodyKind f.body) f.header).state s.mirror.remote[f.header.sender][i])
    (i : Fin 16) :
    RowAgrees false (entryAfter (bodyKind f.body) f.header).state
      (takeBody f.header.sender f.body s).mirror.remote[f.header.sender][i] := by
  by_cases hkind : bodyKind f.body = .depart
  · have hb : f.body = .depart := by cases hb : f.body <;> simp_all [bodyKind]
    have hstands : takeBody f.header.sender f.body s = s := by rw [hb]; rfl
    rw [hstands]
    exact hheard i
  · have hpresent : (entryAfter (bodyKind f.body) f.header).state = .present := if_neg hkind
    rw [hpresent] at hheard ⊢
    exact takeBody_rowAgrees hheard i

/-- A valid frame of a peer keeps the agreement (R73 to R77). -/
theorem takePeerFrame_tableAgrees {f : Frame} {s : State} (hp : f.header.sender ≠ ownNumber s) (hs : TableAgrees s) :
    TableAgrees (takePeerFrame f s) := by
  obtain ⟨hpeers, hsolo, hrows⟩ := hs
  have hnumber : ownNumber (takePeerFrame f s) = ownNumber s := by simp [ownNumber]
  have hset : (takePeerFrame f s).peers = s.peers.set f.header.sender (entryAfter (bodyKind f.body) f.header) := by
    simp [takePeerFrame, peerHeard_peers]
  refine ⟨peersCoherent_set hpeers hnumber hp hset (entryCoherent_entryAfter _ _), ?_, ?_⟩
  · rw [soloCoherent_iff, takePeerFrame_member]
    exact peerHeard_soloAgrees hsolo hnumber hset
  · rw [rowsCoherent_iff, hnumber, hset]
    have hrotated : RowsCoherent (rotateTo f.header.sender s) := hrows
    intro q i
    rw [takePeerFrame_mirror, get_set_fin]
    by_cases hq : q = f.header.sender
    · subst hq
      rw [if_pos rfl, beq_false_of_ne hp]
      exact takeBody_heard_rowAgrees (s := peerHeard f.header (bodyKind f.body) (rotateTo f.header.sender s))
        (fun i => peerHeard_rowAgrees (s := rotateTo f.header.sender s) hp hrotated i) i
    · rw [if_neg hq]
      have hrow := (rowsCoherent_iff s).mp hrows q i
      have hheard : (peerHeard f.header (bodyKind f.body) (rotateTo f.header.sender s)).mirror.remote[q][i] =
          s.mirror.remote[q][i] := peerHeard_remote_of_ne (s := rotateTo f.header.sender s) hp hq i
      rcases takeBody_remote_of_ne f.body (peerHeard f.header (bodyKind f.body) (rotateTo f.header.sender s)) hq i with
        h | h <;> rw [h, hheard]
      · exact hrow
      · exact rowAgrees_silenced hrow

theorem takeFrame_tableAgrees (f : Frame) {s : State} (hs : TableAgrees s) : TableAgrees (takeFrame f s) := by
  have hheard : TableAgrees (hearFrame f s) := hs
  unfold takeFrame
  split
  · exact hs
  · split
    · exact hs
    · split
      · refine tableAgrees_stands hheard (by simp [ownNumber]) (by simp) (.inl (by simp)) ?_
        exact enterDuplicate_soloAgrees (s := rotateTo (ownNumber (hearFrame f s)) (hearFrame f s)) hs.2.1
      · next hp => exact takePeerFrame_tableAgrees hp hheard

/-- A peer that becomes LOST takes its rows and the own state with it (R78). -/
theorem lostPresence_tableAgrees {p : StationNo} {s u : State} {e : PeerEntry} (hpresent : isPresent s p = true)
    (hs : TableAgrees s) (he : e = { s.peers[p] with state := .lost, silence := .stopped })
    (hset : u.peers = s.peers.set p e) (hnumber : ownNumber u = ownNumber s) (hmirror : u.mirror = s.mirror) :
    TableAgrees (lostPresence p u) := by
  obtain ⟨hpeers, -, hrows⟩ := hs
  obtain ⟨hp, hstate⟩ : p ≠ ownNumber s ∧ s.peers[p].state = .present := by
    simpa only [isPresent, Bool.and_eq_true, bne_iff_ne, beq_iff_eq] using hpresent
  have hlost : EntryCoherent e := by
    obtain ⟨-, -, hsequence⟩ := ((peersCoherent_iff s).mp hpeers p).2
    subst he
    refine ⟨by simp [Timer.stopped], fun _ => rfl, ?_⟩
    rw [hstate] at hsequence
    simpa using hsequence
  have hset' : (lostPresence p u).peers = s.peers.set p e := by simpa using hset
  have hnumber' : ownNumber (lostPresence p u) = ownNumber s := by simpa [ownNumber] using hnumber
  refine ⟨peersCoherent_set hpeers hnumber' hp hset' hlost, ?_, ?_⟩
  · rw [soloCoherent_iff, lostPresence_member, anyPresent_congr (s := u) (by simp) (by simp [ownNumber])]
    split
    · exact soloAgrees_presenceRule u
    · next hstays => exact soloAgrees_of_ne (fun e => hstays (.inl e)) (fun e => hstays (.inr e))
  · rw [rowsCoherent_iff]
    intro q i
    have hrow := (rowsCoherent_iff s).mp hrows q i
    rw [hnumber', hset', get_set_fin, lostPresence, followPresence_remote, markStale_remote, hmirror]
    by_cases hq : q = p
    · subst hq
      rw [beq_false_of_ne hp] at hrow ⊢
      rw [if_pos rfl, if_pos rfl, he]
      exact rowAgrees_markStale hrow (.inl rfl)
    · rw [if_neg hq, if_neg hq]
      exact hrow

/-! ### The commands, the tick and the step -/

theorem tableAgrees_reset {s : State} (hpeers : s.peers = Vector.replicate 16 .reset) (hmirror : s.mirror = .reset)
    (hgroup : s.member.own ≠ .group) (hsolo : s.member.own ≠ .solo) : TableAgrees s := by
  refine ⟨?_, soloAgrees_of_ne hgroup hsolo, ?_⟩
  · rw [peersCoherent_iff, hpeers]
    intro p
    simp [EntryCoherent, PeerEntry.reset, Timer.stopped]
  · rw [rowsCoherent_iff, hmirror]
    intro p i
    simpa [MirrorTable.reset] using rowAgrees_vacant _ _

theorem tableAgrees_of_loading {s : State} (hq : LoadingQuiescent s) (hload : s.member.own = .loading) :
    TableAgrees s := by
  obtain ⟨-, -, -, -, -, -, hpeers, hmirror, -⟩ := hq hload
  exact tableAgrees_reset hpeers hmirror (by simp [hload]) (by simp [hload])

theorem loaded_tableAgrees {s : State} (hq : LoadingQuiescent s) (hload : s.member.own = .loading) :
    TableAgrees (loaded s) := by
  obtain ⟨-, -, -, -, -, -, hpeers, hmirror, -⟩ := hq hload
  refine tableAgrees_stands (tableAgrees_of_loading hq hload) (by simp [loaded, ownNumber]) (by simp [loaded])
    (.inl (by simp [loaded])) (enterListen_soloAgrees _ _)

theorem exec_tableAgrees {c : Instr} {s t : State} (h : exec c s = .next t) (hreset : ResetHeld s)
    (hq : LoadingQuiescent s) (hs : TableAgrees s) : TableAgrees t := by
  by_cases hload : s.member.own = .loading
  · rcases exec_loading_cases h hq hload with hstays | rfl
    · exact tableAgrees_of_loading (exec_loadingQuiescent h hq) hstays
    · exact loaded_tableAgrees hq hload
  by_cases hstation : ∃ cause, c = .stationReset cause
  · obtain ⟨cause, rfl⟩ := hstation
    have hqt := exec_loadingQuiescent h hq
    obtain rfl := Host.Outcome.next.inj h
    exact tableAgrees_of_loading hqt rfl
  by_cases hrelease : ∃ straps, c = .releaseOfReset straps
  · obtain ⟨straps, rfl⟩ := hrelease
    simp only [exec, execReleaseOfReset] at h
    split at h
    · next hin => exact absurd (by rw [hreset hin]; rfl) hload
    · obtain rfl := Host.Outcome.next.inj h
      exact hs
  have hnumber : ownNumber t = ownNumber s :=
    congrArg Straps.station (exec_straps h (fun _ e => hstation ⟨_, e⟩) (fun _ e => hrelease ⟨_, e⟩))
  by_cases hpeers : touchesPeers c = false
  · obtain ⟨hp, hr⟩ := exec_peers h hpeers
    exact tableAgrees_stands hs hnumber hp hr (exec_soloAgrees h hpeers hs.2.1)
  cases c with
  | stationReset cause => exact absurd ⟨cause, rfl⟩ hstation
  | endOfLoading => rw [exec_endOfLoading_not h (by simp [loading, hload])]; exact hs
  | lostTimerExpiry p =>
    simp only [exec, execLostTimerExpiry] at h
    split at h <;> obtain rfl := Host.Outcome.next.inj h
    · next hready => exact lostPresence_tableAgrees hready.1 hs rfl rfl rfl rfl
    · exact hs
  | receivePresence | receiveHello | receiveAnnounce | receiveAckReq | receiveResetReq | receiveRefreshReq
  | receiveSilence | receiveDepart =>
    obtain rfl := Host.Outcome.next.inj h
    exact takeFrame_tableAgrees _ hs
  | _ => exact absurd rfl hpeers

theorem tick_tableAgrees {s : State} (hs : TableAgrees s) : TableAgrees (tickCounters (tickLine s)) := by
  obtain ⟨hpeers, hsolo, hrows⟩ := hs
  have hnumber : ownNumber (tickCounters (tickLine s)) = ownNumber s := by simp [ownNumber, tickCounters]
  have hentry : ∀ p : Fin 16, (tickCounters (tickLine s)).peers[p] =
      { s.peers[p] with silence := tickTimer (lostLength (tickLine s)) s.peers[p].silence } := fun p => by
    simp only [tickCounters, tickLine_frame, get_ofFn_fin]
  have hany : anyPresent (tickCounters (tickLine s)) = anyPresent s := by
    have hsame : isPresent (tickCounters (tickLine s)) = isPresent s := by
      funext p
      unfold isPresent
      rw [hentry, hnumber]
    unfold anyPresent
    rw [hsame]
  refine ⟨(peersCoherent_iff _).mpr fun p => ?_, ?_, ?_⟩
  · obtain ⟨hown, hrunning, hstopped, hsequence⟩ := (peersCoherent_iff s).mp hpeers p
    rw [hnumber, hentry]
    refine ⟨fun e => ?_, by simpa using hrunning, fun hne => ?_, hsequence⟩
    · rw [hown e]
      simp [PeerEntry.reset]
    · rw [hstopped hne]
      simp
  · rw [soloCoherent_iff, hany]
    simpa [tickCounters] using (soloCoherent_iff s).mp hsolo
  · rw [rowsCoherent_iff] at hrows ⊢
    intro p i
    rw [hentry, hnumber]
    simpa [-Fin.getElem_fin] using hrows p i

/-- Settles O57: the entries, the rows and the own state agree with one another, and a frame of a peer and an expiry of a lost
timer, which alone write an entry, take rows and own state with them. -/
theorem presenceAndRowsAgree : Obligations.PresenceAndRowsAgree := by
  intro s t hs h
  obtain ⟨hreset, hq, htable⟩ := step_keeps (Inv := fun s => ResetHeld s ∧ LoadingQuiescent s ∧ TableAgrees s)
    (fun s q hs => ⟨resetHeld_pending s q hs.1, hs.2⟩)
    (fun _ _ _ h hs => ⟨exec_resetHeld h hs.1, exec_loadingQuiescent h hs.2.1, exec_tableAgrees h hs.1 hs.2.1 hs.2.2⟩)
    (fun _ hreset hs => ⟨tick_resetHeld hreset, tick_loadingQuiescent hs.2.1, tick_tableAgrees hs.2.2⟩) hs h
  exact ⟨hreset, hq, htable⟩

end Sys2Proof.Machine
end

section
/-! PROOFS. What publications, state changes, the snapshot rule and the catch-up make of the own rows' horn flags and
of the first-out registers. -/

namespace Sys2Proof.Machine

open Sys2Proof.Safety

/-! ### Own rows: horn flags and first-out registers, one operation at a time -/

theorem isNewRaise_published (r : OwnPoint) (pair : PointPair) :
    isNewRaise (r.published.map (·.version)) pair = raisesAnew r pair :=
  Bool.and_comm _ _

/-- The own row's horn flag at a publication (R102). -/
theorem publish_ownHorn (i j : PointIndex) (pair : PointPair) (s : State) :
    (publish i pair s).mirror.ownHorn[j] =
      if j = i then hornPublished s.points[j] pair s.mirror.ownHorn[j] else s.mirror.ownHorn[j] := by
  simp only [publish, get_set_fin]
  split
  · next e =>
    subst e
    simp only [hornAfterOwn, hornPublished, isNewRaise_published]
    cases unacked pair.state <;> simp [Bool.or_comm, Bool.and_comm]
  · rfl

/-- The registers at a publication (R102). -/
theorem publish_register (i : PointIndex) (pair : PointPair) (s : State) (g : FirstOutGroup) :
    (publish i pair s).mirror.firstOut.get g =
      registerPublished { owner := ownNumber s, index := i } s.points[i] pair g (s.mirror.firstOut.get g) := by
  simp only [publish, firstOutAfterOwn, isNewRaise_published, registerPublished]
  split
  · next hnew =>
    rw [Bool.and_eq_true, bne_iff_ne] at hnew
    rw [FirstOut.get_take]
    grind
  · next hold =>
    rw [Bool.and_eq_true, bne_iff_ne] at hold
    grind

/-- The record's catch-up publishes its present pair, if it is behind (R94). -/
theorem catchUpPoint_eq (s : State) (i : PointIndex) :
    catchUpPoint s i = if isBehind s.points[i] = true then publish i (pairOf s.points[i]) s else s := by
  unfold catchUpPoint isBehind
  simp only [Bool.and_eq_true, Option.isNone_iff_eq_none, bne_iff_ne, ne_eq]

theorem catchUpPoint_records (s : State) (i j : PointIndex) :
    (catchUpPoint s i).points[j] =
      if j = i ∧ isBehind s.points[j] = true then { s.points[j] with published := some (pairOf s.points[j]) }
      else s.points[j] := by
  rw [catchUpPoint_eq]
  by_cases hb : isBehind s.points[i] = true
  · rw [if_pos hb, publish_points]
    by_cases e : j = i
    · subst e
      rw [if_pos rfl, if_pos ⟨rfl, hb⟩]
    · rw [if_neg e, if_neg fun h => e h.1]
  · rw [if_neg hb, if_neg]
    rintro ⟨rfl, h⟩
    exact hb h

theorem catchUpPoint_ownHorn (s : State) (i j : PointIndex) :
    (catchUpPoint s i).mirror.ownHorn[j] =
      if j = i ∧ isBehind s.points[j] = true then hornPublished s.points[j] (pairOf s.points[j]) s.mirror.ownHorn[j]
      else s.mirror.ownHorn[j] := by
  rw [catchUpPoint_eq]
  by_cases hb : isBehind s.points[i] = true
  · rw [if_pos hb, publish_ownHorn]
    by_cases e : j = i
    · subst e
      rw [if_pos rfl, if_pos ⟨rfl, hb⟩]
    · rw [if_neg e, if_neg fun h => e h.1]
  · rw [if_neg hb, if_neg]
    rintro ⟨rfl, h⟩
    exact hb h

/-- The register of group `g` after the catch-up of own point `i` with this record (R94, R102). -/
def registerCaughtUp (owner : StationNo) (records : PointIndex → OwnPoint) (g : FirstOutGroup) (held : Option PointRef)
    (i : PointIndex) : Option PointRef :=
  if isBehind (records i) then
    registerPublished { owner := owner, index := i } (records i) (pairOf (records i)) g held
  else held

theorem catchUpPoint_register (s : State) (i : PointIndex) (g : FirstOutGroup) :
    (catchUpPoint s i).mirror.firstOut.get g =
      registerCaughtUp (ownNumber s) (fun j => s.points[j]) g (s.mirror.firstOut.get g) i := by
  rw [catchUpPoint_eq, registerCaughtUp]
  split
  · exact publish_register i _ s g
  · rfl

/-! ### The catch-up of the whole list -/

/-- A record that is published as it stands is not behind. -/
theorem isBehind_published (r : OwnPoint) : isBehind { r with published := some (pairOf r) } = false := by
  simp [isBehind, pairOf]

/-- After its catch-up a record is not behind. -/
theorem isBehind_catchUpPoint (s : State) (i : PointIndex) : isBehind (catchUpPoint s i).points[i] = false := by
  rw [catchUpPoint_records]
  by_cases hb : isBehind s.points[i] = true
  · rw [if_pos ⟨rfl, hb⟩, isBehind_published]
  · rw [if_neg fun h => hb h.2]
    exact eq_false_of_ne_true hb

/-- The catch-up, record by record (R94). -/
theorem catchUpAll_records (l : List PointIndex) (s : State) (j : PointIndex) :
    (l.foldl catchUpPoint s).points[j] =
      if j ∈ l ∧ isBehind s.points[j] = true then { s.points[j] with published := some (pairOf s.points[j]) }
      else s.points[j] := by
  induction l generalizing s with
  | nil => rw [if_neg fun h => List.not_mem_nil h.1]; rfl
  | cons i l ih =>
    rw [List.foldl_cons, ih]
    by_cases e : j = i
    · subst e
      rw [isBehind_catchUpPoint, if_neg fun h => Bool.false_ne_true h.2, catchUpPoint_records]
      simp only [List.mem_cons, true_or, true_and]
    · have hrecord : (catchUpPoint s i).points[j] = s.points[j] := by rw [catchUpPoint_records, if_neg fun h => e h.1]
      rw [hrecord]
      simp only [List.mem_cons, e, false_or]

theorem catchUpAll_ownHorn (l : List PointIndex) (s : State) (j : PointIndex) :
    (l.foldl catchUpPoint s).mirror.ownHorn[j] =
      if j ∈ l ∧ isBehind s.points[j] = true then hornPublished s.points[j] (pairOf s.points[j]) s.mirror.ownHorn[j]
      else s.mirror.ownHorn[j] := by
  induction l generalizing s with
  | nil => rw [if_neg fun h => List.not_mem_nil h.1]; rfl
  | cons i l ih =>
    rw [List.foldl_cons, ih]
    by_cases e : j = i
    · subst e
      rw [isBehind_catchUpPoint, if_neg fun h => Bool.false_ne_true h.2, catchUpPoint_ownHorn]
      simp only [List.mem_cons, true_or, true_and]
    · have hrecord : (catchUpPoint s i).points[j] = s.points[j] := by rw [catchUpPoint_records, if_neg fun h => e h.1]
      have hhorn : (catchUpPoint s i).mirror.ownHorn[j] = s.mirror.ownHorn[j] := by
        rw [catchUpPoint_ownHorn, if_neg fun h => e h.1]
      rw [hrecord, hhorn]
      simp only [List.mem_cons, e, false_or]

/-- A register that holds a point keeps it at every publication (R102). -/
theorem registerPublished_some (p q : PointRef) (r : OwnPoint) (pair : PointPair) (g : FirstOutGroup) :
    registerPublished p r pair g (some q) = some q :=
  if_neg fun h => Option.some_ne_none q h.1

/-- Once a publication has been taken into a register, no repetition of it changes the register any more. -/
theorem registerPublished_again (p : PointRef) (r : OwnPoint) (pair : PointPair) (g : FirstOutGroup) (held : Option PointRef) :
    registerPublished p r pair g (registerPublished p r pair g held) = registerPublished p r pair g held := by
  by_cases h : held = none ∧ g = r.group ∧ g ≠ .g0 ∧ r.state ≠ .quiet ∧ raisesAnew r pair = true
  · rw [show registerPublished p r pair g held = some p from if_pos h, registerPublished_some]
  · rw [show registerPublished p r pair g held = held from if_neg h]
    exact if_neg h

/-- What a publication has nothing to add to, another one leaves so. -/
theorem registerPublished_stays {p q : PointRef} {r r' : OwnPoint} {pair pair' : PointPair} {g : FirstOutGroup}
    {held : Option PointRef} (h : registerPublished p r pair g held = held) :
    registerPublished p r pair g (registerPublished q r' pair' g held) = registerPublished q r' pair' g held := by
  cases hheld : registerPublished q r' pair' g held with
  | some x => exact registerPublished_some _ _ _ _ _
  | none =>
    cases held with
    | some y => rw [registerPublished_some] at hheld; cases hheld
    | none => exact h

/-- A point that is caught up already counts no more in the pass over the rest of the list. -/
theorem foldl_registerCaughtUp_of_done {owner : StationNo} {before after : PointIndex → OwnPoint} {i : PointIndex}
    {g : FirstOutGroup} (hdone : isBehind (after i) = false) (hrest : ∀ j, j ≠ i → after j = before j)
    (l : List PointIndex) (held : Option PointRef) (hheld : registerCaughtUp owner before g held i = held) :
    l.foldl (registerCaughtUp owner after g) held = l.foldl (registerCaughtUp owner before g) held := by
  induction l generalizing held with
  | nil => rfl
  | cons j l ih =>
    rw [List.foldl_cons, List.foldl_cons]
    have hstep : registerCaughtUp owner after g held j = registerCaughtUp owner before g held j := by
      by_cases e : j = i
      · subst e
        rw [hheld, registerCaughtUp, hdone, if_neg Bool.false_ne_true]
      · rw [registerCaughtUp, registerCaughtUp, hrest j e]
    rw [hstep]
    refine ih _ ?_
    unfold registerCaughtUp at hheld ⊢
    split
    · next hb =>
      rw [if_pos hb] at hheld
      split
      · exact registerPublished_stays hheld
      · exact hheld
    · rfl

theorem registerCaughtUp_again (owner : StationNo) (records : PointIndex → OwnPoint) (g : FirstOutGroup)
    (held : Option PointRef) (i : PointIndex) :
    registerCaughtUp owner records g (registerCaughtUp owner records g held i) i = registerCaughtUp owner records g held i := by
  unfold registerCaughtUp
  split
  · exact registerPublished_again _ _ _ _ _
  · rfl

/-- The catch-up acts on a register point by point in list order, each by its record as it stood before (R94, R102). -/
theorem catchUpAll_register (l : List PointIndex) (s : State) (g : FirstOutGroup) :
    (l.foldl catchUpPoint s).mirror.firstOut.get g =
      l.foldl (registerCaughtUp (ownNumber s) (fun j => s.points[j]) g) (s.mirror.firstOut.get g) := by
  induction l generalizing s with
  | nil => rfl
  | cons i l ih =>
    have hnumber : ownNumber (catchUpPoint s i) = ownNumber s := by simp [ownNumber]
    rw [List.foldl_cons, List.foldl_cons, ih, hnumber, catchUpPoint_register]
    refine foldl_registerCaughtUp_of_done (isBehind_catchUpPoint s i) (fun j e => ?_) l _ (registerCaughtUp_again ..)
    rw [catchUpPoint_records, if_neg fun h => e h.1]

/-- The catch-up of the list gives the records, own rows and registers of R94. -/
theorem catchUp_caughtUpFrom (s : State) :
    CaughtUpFrom true s.list (ownNumber s) (fun i => s.points[i]) (fun i => s.mirror.ownHorn[i]) s.mirror.firstOut.get
      (catchUp s) := by
  refine ⟨fun i => ⟨?_, ?_⟩, fun g _ => ?_⟩
  · simp only [Bool.true_and, List.contains_eq_mem, Bool.and_eq_true, decide_eq_true_eq]
    exact catchUpAll_records s.list s i
  · simp only [Bool.true_and, List.contains_eq_mem, Bool.and_eq_true, decide_eq_true_eq]
    exact catchUpAll_ownHorn s.list s i
  · exact catchUpAll_register s.list s g

/-- Where no catch-up is taken, records, own rows and registers stand. -/
theorem caughtUpFrom_stands (list : List PointIndex) (owner : StationNo) (s : State) :
    CaughtUpFrom false list owner (fun i => s.points[i]) (fun i => s.mirror.ownHorn[i]) s.mirror.firstOut.get s := by
  refine ⟨fun i => ⟨rfl, rfl⟩, fun g _ => ?_⟩
  simp only [Bool.false_and, Bool.false_eq_true, if_false]
  exact (List.foldl_fixed _).symm

/-- `CaughtUpFrom` speaks of the records, the own rows' horn flags and the registers of the later state only. -/
theorem caughtUpFrom_congr {taken : Bool} {list : List PointIndex} {owner : StationNo} {records : PointIndex → OwnPoint}
    {horn : PointIndex → Bool} {register : FirstOutGroup → Option PointRef} {t u : State}
    (h : CaughtUpFrom taken list owner records horn register t) (hpoints : u.points = t.points)
    (hhorn : u.mirror.ownHorn = t.mirror.ownHorn) (hfirst : u.mirror.firstOut = t.mirror.firstOut) :
    CaughtUpFrom taken list owner records horn register u := by
  obtain ⟨hrecords, hregisters⟩ := h
  exact ⟨fun i => by rw [hpoints, hhorn]; exact hrecords i, fun g hg => by rw [hfirst]; exact hregisters g hg⟩

/-- Local publication mode depends on the own state and LINE FAULT only (R92). -/
theorem localMode_congr {s t : State} (hown : t.member.own = s.member.own)
    (hfault : t.access.lineFault = s.access.lineFault) : localMode t = localMode s := by
  unfold localMode
  rw [hown, hfault]

/-- The catch-up at a change that leaves the own points alone is the one of `CaughtUp` (R94). -/
theorem catchUpFrom_caughtUp {s u : State} (hpoints : u.points = s.points) (hlist : u.list = s.list)
    (hhorn : u.mirror.ownHorn = s.mirror.ownHorn) (hfirst : u.mirror.firstOut = s.mirror.firstOut)
    (hnumber : ownNumber u = ownNumber s) : CaughtUp s (catchUpFrom s u) := by
  have hmode : localMode (catchUpFrom s u) = localMode u :=
    localMode_congr (by simp) (by simp)
  unfold CaughtUp
  rw [hmode, ← hnumber, ← hlist, ← hpoints, ← hhorn, ← hfirst]
  unfold catchUpFrom
  cases !localMode s && localMode u
  · exact caughtUpFrom_stands _ _ u
  · exact catchUp_caughtUpFrom u

/-! ### State changes and the snapshot rule: horn flags and registers -/

/-- A state change up to its publication: the record, the own row's flags and the list (R17, R22, R83, R103). -/
def changeWritten (i : PointIndex) (new : PointState) (s : State) : State :=
  { s with
    points := s.points.set i { s.points[i] with state := new, version := versionAfter new s.points[i].version }
    mirror := mirrorAtChange { owner := ownNumber s, index := i } new s.mirror
    list := append i s.list }

section StateChange

variable (i j : PointIndex) (new : PointState) (s : State) (g : FirstOutGroup)

theorem stateChange_of_normal {s : State} (h : localMode s = false) : stateChange i new s = changeWritten i new s :=
  if_neg (ne_true_of_eq_false h)

/-- In local publication mode the new pair is published at once (R93). -/
theorem stateChange_of_local {s : State} (h : localMode s = true) :
    stateChange i new s =
      publish i (pairOf (changeWritten i new s).points[i])
        { changeWritten i new s with
          points := (changeWritten i new s).points.set i { (changeWritten i new s).points[i] with snapshot := none } } :=
  if_pos h

theorem changeWritten_points :
    (changeWritten i new s).points[j] =
      if j = i then { s.points[i] with state := new, version := versionAfter new s.points[i].version } else s.points[j] :=
  get_set_fin ..

theorem changeWritten_ownHorn :
    (changeWritten i new s).mirror.ownHorn[j] =
      if j = i then unacked new && s.mirror.ownHorn[i] else s.mirror.ownHorn[j] :=
  get_set_fin ..

theorem changeWritten_register :
    (changeWritten i new s).mirror.firstOut.get g =
      if new = .quiet ∧ s.mirror.firstOut.get g = some { owner := ownNumber s, index := i } then none
      else s.mirror.firstOut.get g := by
  simp only [changeWritten, mirrorAtChange]
  split
  · next hquiet =>
    rw [FirstOut.get_dropIf]
    cases s.mirror.firstOut.get g with
    | none => simp
    | some p => by_cases hp : p = { owner := ownNumber s, index := i } <;> simp [hp, hquiet]
  · next hne => rw [if_neg fun h => hne h.1]

/-- The own row's horn flag at a state change (R93, R103). -/
theorem stateChange_ownHorn :
    (stateChange i new s).mirror.ownHorn[j] =
      if j = i then hornMoved (localMode s) (some new) s.points[j] s.mirror.ownHorn[j] else s.mirror.ownHorn[j] := by
  cases hl : localMode s with
  | false =>
    rw [stateChange_of_normal i new hl, changeWritten_ownHorn]
    split
    · next e => subst e; simp [hornMoved]
    · rfl
  | true =>
    rw [stateChange_of_local i new hl, publish_ownHorn]
    dsimp only
    rw [changeWritten_ownHorn, changeWritten_points, get_set_fin, if_pos rfl]
    split
    · next e =>
      subst e
      simp only [hornMoved, hornPublished, raisesAnew, pairOf, versionMoved, versionAfter]
      cases new <;> simp [unacked] <;> rfl
    · rfl

/-- The registers at a state change (R93, R103). -/
theorem stateChange_register :
    (stateChange i new s).mirror.firstOut.get g =
      registerMoved (localMode s) { owner := ownNumber s, index := i } (some new) s.points[i] g
        (s.mirror.firstOut.get g) := by
  cases hl : localMode s with
  | false =>
    rw [stateChange_of_normal i new hl, changeWritten_register]
    by_cases hquiet : new = .quiet <;> simp [registerMoved, hquiet]
  | true =>
    rw [stateChange_of_local i new hl, publish_register]
    dsimp only
    rw [changeWritten_register, changeWritten_points, get_set_fin, if_pos rfl]
    by_cases hquiet : new = .quiet
    · simp [registerMoved, registerPublished, raisesAnew, pairOf, hquiet, ownNumber]
      rfl
    · simp [registerMoved, registerPublished, raisesAnew, pairOf, versionMoved, versionAfter, hquiet, changeWritten, ownNumber]

end StateChange

section Moves

variable (i j : PointIndex) (move : Option PointState) (s : State) (g : FirstOutGroup)

theorem applyMove_ownHorn :
    (applyMove i move s).mirror.ownHorn[j] =
      if j = i then hornMoved (localMode s) move s.points[j] s.mirror.ownHorn[j] else s.mirror.ownHorn[j] := by
  cases move with
  | none => exact (ite_self _).symm
  | some new => exact stateChange_ownHorn i j new s

theorem applyMove_register :
    (applyMove i move s).mirror.firstOut.get g =
      registerMoved (localMode s) { owner := ownNumber s, index := i } move s.points[i] g (s.mirror.firstOut.get g) := by
  cases move with
  | none => rfl
  | some new => exact stateChange_register i new s g

end Moves

section Settle

variable (s : State) (i j : PointIndex) (g : FirstOutGroup)

/-- The own row's horn flag under the snapshot rule (R89, R102). -/
theorem settlePoint_ownHorn :
    (settlePoint s i).mirror.ownHorn[j] =
      if j = i then hornSettled s.points[j] s.mirror.ownHorn[j] else s.mirror.ownHorn[j] := by
  unfold settlePoint
  cases hsnap : s.points[i].snapshot with
  | none =>
    dsimp only
    split
    · next e => subst e; rw [hornSettled, hsnap]
    · rfl
  | some pair =>
    dsimp only
    rw [publish_ownHorn]
    split
    · next e => subst e; rw [hornSettled, hsnap]
    · rfl

/-- The registers under the snapshot rule (R89, R102). -/
theorem settlePoint_register :
    (settlePoint s i).mirror.firstOut.get g =
      registerSettled { owner := ownNumber s, index := i } s.points[i] g (s.mirror.firstOut.get g) := by
  unfold settlePoint
  cases hsnap : s.points[i].snapshot with
  | none => rw [registerSettled, hsnap]
  | some pair =>
    dsimp only
    rw [publish_register, registerSettled, hsnap]

end Settle

/-! ### A register holds a raised point of its group -/

/-- The row is in group `g` and neither QUIET nor VACANT: the register of the group may hold its point (R108). -/
def Holdable (g : FirstOutGroup) (row : MirrorRow) : Prop :=
  row.group = g ∧ rowIs (· != .quiet) row = true

/-- The point that the register of group `g` holds, if it holds one, is such a point. -/
def RegisterHolds (s : State) (g : FirstOutGroup) : Prop :=
  ∀ p, s.mirror.firstOut.get g = some p → Holdable g (rowOf s p.owner p.index)

theorem firstOutCoherent_iff (s : State) :
    FirstOutCoherent s ↔ ∀ g, RegisterHolds s g := by
  constructor
  · rintro ⟨h1, h2, h3⟩ g p hp
    cases g with
    | g0 => simp at hp
    | g1 => exact h1 p hp
    | g2 => exact h2 p hp
    | g3 => exact h3 p hp
  · intro h
    exact ⟨h .g1, h .g2, h .g3⟩

theorem rowOf_own {s : State} {p : PointRef} (hp : p.owner = ownNumber s) (he : s.points[p.index].enabled = true) :
    rowOf s p.owner p.index =
      { content := some (pairOf s.points[p.index]), group := s.points[p.index].group, stale := false
        horn := s.mirror.ownHorn[p.index] } := by
  rw [rowOf, if_pos hp]
  exact if_pos he

theorem rowOf_own_disabled {s : State} {p : PointRef} (hp : p.owner = ownNumber s)
    (he : s.points[p.index].enabled = false) : rowOf s p.owner p.index = .vacant := by
  rw [rowOf, if_pos hp]
  exact if_neg (by rw [he]; exact Bool.false_ne_true)

theorem rowOf_remote {s : State} {p : PointRef} (hp : p.owner ≠ ownNumber s) :
    rowOf s p.owner p.index = s.mirror.remote[p.owner][p.index] := if_neg hp

/-- An own point may be held exactly if it is enabled, of the group and not QUIET. -/
theorem holdable_own {s : State} {p : PointRef} {g : FirstOutGroup} (hp : p.owner = ownNumber s) :
    Holdable g (rowOf s p.owner p.index) ↔
      s.points[p.index].enabled = true ∧ s.points[p.index].group = g ∧ s.points[p.index].state ≠ .quiet := by
  cases he : s.points[p.index].enabled with
  | false => rw [rowOf_own_disabled hp he]; simp [Holdable, rowIs, MirrorRow.vacant]
  | true => rw [rowOf_own hp he]; simp [Holdable, rowIs, pairOf]

/-- Whether a point may be held depends on the rows' contents and groups and on the records' settings and states only. -/
theorem holdable_congr {s t : State} {p : PointRef} {g : FirstOutGroup} (hnumber : ownNumber t = ownNumber s)
    (hpoints : ∀ i : PointIndex, t.points[i].enabled = s.points[i].enabled ∧ t.points[i].group = s.points[i].group ∧
      t.points[i].state = s.points[i].state)
    (hrows : p.owner ≠ ownNumber s → t.mirror.remote[p.owner][p.index].content = s.mirror.remote[p.owner][p.index].content ∧
      t.mirror.remote[p.owner][p.index].group = s.mirror.remote[p.owner][p.index].group) :
    Holdable g (rowOf t p.owner p.index) ↔ Holdable g (rowOf s p.owner p.index) := by
  by_cases hp : p.owner = ownNumber s
  · obtain ⟨henabled, hgroup, hstate⟩ := hpoints p.index
    rw [holdable_own hp, holdable_own (hp.trans hnumber.symm), henabled, hgroup, hstate]
  · obtain ⟨hcontent, hgroup⟩ := hrows hp
    rw [rowOf_remote hp, rowOf_remote (by rwa [hnumber])]
    unfold Holdable rowIs
    rw [hcontent, hgroup]

/-- All registers hold raised points of their groups. -/
def FirstOutHolds (s : State) : Prop := ∀ g, RegisterHolds s g

section Steps

variable {s : State} (hs : FirstOutHolds s)

include hs

/-- Rows as before, and registers that hold no other points than before. -/
theorem firstOutHolds_fewer {t : State} (hnumber : ownNumber t = ownNumber s)
    (hpoints : ∀ i : PointIndex, t.points[i].enabled = s.points[i].enabled ∧ t.points[i].group = s.points[i].group ∧
      t.points[i].state = s.points[i].state)
    (h : ∀ g p, t.mirror.firstOut.get g = some p → s.mirror.firstOut.get g = some p ∧ (p.owner ≠ ownNumber s →
      t.mirror.remote[p.owner][p.index].content = s.mirror.remote[p.owner][p.index].content ∧
      t.mirror.remote[p.owner][p.index].group = s.mirror.remote[p.owner][p.index].group)) : FirstOutHolds t := by
  intro g p hp
  obtain ⟨hheld, hrows⟩ := h g p hp
  rw [holdable_congr hnumber hpoints hrows]
  exact hs g p hheld

/-- A publication of an enabled point (R102). -/
theorem publish_firstOutHolds {i : PointIndex} (pair : PointPair) (he : s.points[i].enabled = true) :
    FirstOutHolds (publish i pair s) := by
  intro g p hp
  have hnumber : ownNumber (publish i pair s) = ownNumber s := rfl
  have hpoints : ∀ j : PointIndex, (publish i pair s).points[j].enabled = s.points[j].enabled ∧
      (publish i pair s).points[j].group = s.points[j].group ∧ (publish i pair s).points[j].state = s.points[j].state := by
    intro j
    rw [publish_points]
    split <;> exact ⟨rfl, rfl, rfl⟩
  rw [holdable_congr hnumber hpoints fun _ => ⟨rfl, rfl⟩]
  rw [publish_register, registerPublished] at hp
  split at hp
  · next hnew =>
    obtain ⟨-, hgroup, -, hstate, -⟩ := hnew
    obtain rfl := Option.some.inj hp
    exact (holdable_own rfl).mpr ⟨he, hgroup.symm, hstate⟩
  · exact hs g p hp

/-- A state change of an enabled point (R93, R103). -/
theorem stateChange_firstOutHolds {i : PointIndex} {new : PointState} (he : s.points[i].enabled = true) :
    FirstOutHolds (stateChange i new s) := by
  intro g p hp
  have hnumber : ownNumber (stateChange i new s) = ownNumber s := by simp [ownNumber]
  have hrecord : ∀ j : PointIndex, (stateChange i new s).points[j] =
      if j = i then moved (localMode s) (some new) s.points[j] else s.points[j] := fun j =>
    applyMove_points i j (some new) s
  have hown : ∀ q : PointRef, q = { owner := ownNumber s, index := i } → s.points[i].group = g → new ≠ .quiet →
      Holdable g (rowOf (stateChange i new s) q.owner q.index) := by
    rintro q rfl hgroup hnew
    refine (holdable_own hnumber.symm).mpr ?_
    simp only [hrecord, if_true, moved, he, hgroup, ne_eq, hnew, not_false_eq_true, and_self]
  have hother : ∀ q : PointRef, q ≠ { owner := ownNumber s, index := i } → Holdable g (rowOf s q.owner q.index) →
      Holdable g (rowOf (stateChange i new s) q.owner q.index) := by
    intro q hq hold
    by_cases hqo : q.owner = ownNumber s
    · have hi : q.index ≠ i := fun e => hq (by cases q; simp_all)
      rw [holdable_own hqo] at hold
      rw [holdable_own (hqo.trans hnumber.symm), hrecord, if_neg hi]
      exact hold
    · rw [rowOf_remote hqo] at hold
      rw [rowOf_remote (by rwa [hnumber]), stateChange_remote]
      exact hold
  rw [stateChange_register, registerMoved] at hp
  by_cases hquiet : new = .quiet
  · simp only [hquiet, if_true] at hp
    split at hp
    · cases hp
    · next hne => exact hother p (fun e => hne (hp.trans (congrArg some e))) (hs g p hp)
  · simp only [hquiet, if_false] at hp
    split at hp
    · next hnew => exact hown p (Option.some.inj hp).symm hnew.2.2.1.symm hquiet
    · by_cases hpi : p = { owner := ownNumber s, index := i }
      · subst hpi
        obtain ⟨-, hgroup, -⟩ := (holdable_own rfl).mp (hs g _ hp)
        exact hown _ rfl hgroup hquiet
      · exact hother p hpi (hs g p hp)

/-- One entry of a peer's ANNOUNCE (R101). -/
theorem takeEntry_firstOutHolds {p : StationNo} (e : AnnounceEntry) (hp : p ≠ ownNumber s) :
    FirstOutHolds { s with mirror := takeEntry p s.mirror e } := by
  intro g q hq
  have hnumber : ownNumber { s with mirror := takeEntry p s.mirror e } = ownNumber s := rfl
  have hother : q ≠ { owner := p, index := e.index } → s.mirror.firstOut.get g = some q →
      Holdable g (rowOf { s with mirror := takeEntry p s.mirror e } q.owner q.index) := by
    intro hne hheld
    have hstands : (takeEntry p s.mirror e).remote[q.owner][q.index] = s.mirror.remote[q.owner][q.index] := by
      rw [takeEntry_remote, if_neg]
      rintro ⟨rfl, hi⟩
      exact hne (by cases q; simp_all)
    exact (holdable_congr hnumber (fun _ => ⟨rfl, rfl, rfl⟩) fun _ => ⟨congrArg _ hstands, congrArg _ hstands⟩).mpr
      (hs g q hheld)
  have hself : q = { owner := p, index := e.index } → g = e.group → e.state ≠ .quiet →
      Holdable g (rowOf { s with mirror := takeEntry p s.mirror e } q.owner q.index) := by
    rintro rfl hgroup hstate
    rw [rowOf_remote (s := { s with mirror := takeEntry p s.mirror e }) (p := { owner := p, index := e.index }) hp]
    simp only [takeEntry_remote, and_self, if_true]
    exact ⟨hgroup.symm, by simpa [rowIs, rowAfterEntry] using hstate⟩
  rw [show ({ s with mirror := takeEntry p s.mirror e } : State).mirror.firstOut.get g = _ from
    takeEntry_firstOut p s.mirror e g, registerAfterEntry] at hq
  split at hq
  · cases hq
  · next hkept =>
    split at hq
    · next hnew => exact hself (Option.some.inj hq).symm hnew.2.1 hnew.2.2.2.1
    · by_cases hqp : q = { owner := p, index := e.index }
      · subst hqp
        have hold := hs g _ hq
        rw [rowOf_remote (p := { owner := p, index := e.index }) hp] at hold
        have hgroup : g = e.group := by
          by_contra hne
          exact hkept ⟨hq, .inl ⟨hold.1.symm, hne⟩⟩
        exact hself rfl hgroup fun hquiet => hkept ⟨hq, .inr ⟨hgroup, hquiet⟩⟩
      · exact hother hqp hq

end Steps

end Sys2Proof.Machine
end

section
/-! PROOFS. First-out registers hold raised points of their groups, and every step keeps it so (O58). -/

namespace Sys2Proof.Machine

open Sys2Proof.Safety

/-! ### First-out registers at the operations on the own points and the rows -/

/-- Empty registers hold nothing. -/
theorem firstOutHolds_of_empty {s : State} (h : s.mirror.firstOut = .empty) : FirstOutHolds s := by
  intro g p hp
  rw [h] at hp
  cases g <;> cases hp

section Steps

variable {s : State} (hs : FirstOutHolds s)

include hs

/-- Where no row, no setting and no state of a record changes, and no register. -/
theorem firstOutHolds_congr {t : State} (hnumber : ownNumber t = ownNumber s)
    (hpoints : ∀ i : PointIndex, t.points[i].enabled = s.points[i].enabled ∧ t.points[i].group = s.points[i].group ∧
      t.points[i].state = s.points[i].state) (hmirror : t.mirror = s.mirror) : FirstOutHolds t :=
  firstOutHolds_fewer hs hnumber hpoints fun _ _ hp => ⟨hmirror ▸ hp, fun _ => by rw [hmirror]; exact ⟨rfl, rfl⟩⟩

theorem applyMove_firstOutHolds {i : PointIndex} (move : Option PointState) (he : s.points[i].enabled = true) :
    FirstOutHolds (applyMove i move s) := by
  cases move with
  | none => exact hs
  | some new => exact stateChange_firstOutHolds hs he

theorem versionedClaim_firstOutHolds (moveOf : PointMode → PointState → Option PointState) (i : PointIndex) (v : Version) :
    FirstOutHolds (versionedClaim moveOf i v s) := by
  rcases versionedClaim_cases moveOf i v s with h | ⟨new, he, -, -, h⟩ <;> rw [h]
  · exact hs
  · exact stateChange_firstOutHolds hs he

theorem conditionEvent_firstOutHolds {i : PointIndex} (event : Condition) (he : s.points[i].enabled = true) :
    FirstOutHolds (conditionEvent i event s) := by
  have hrecord : ∀ j : PointIndex, (s.points.set i { s.points[i] with condition := event })[j] =
      if j = i then { s.points[i] with condition := event } else s.points[j] := fun j => get_set_fin ..
  have hwritten : FirstOutHolds { s with points := s.points.set i { s.points[i] with condition := event } } := by
    refine firstOutHolds_congr hs rfl (fun j => ?_) rfl
    dsimp only
    rw [hrecord]
    split
    · next e => subst e; exact ⟨rfl, rfl, rfl⟩
    · exact ⟨rfl, rfl, rfl⟩
  refine applyMove_firstOutHolds hwritten _ ?_
  dsimp only
  rw [hrecord, if_pos rfl]
  exact he

theorem samplePoint_firstOutHolds (longest : DebounceClass) (levels : Mask) (i : PointIndex) :
    FirstOutHolds (samplePoint longest levels s i) := by
  have hcounted : FirstOutHolds { s with disagree := s.disagree.set i (countAfter longest levels s i) } :=
    firstOutHolds_congr hs rfl (fun _ => ⟨rfl, rfl, rfl⟩) rfl
  rw [samplePoint_eq]
  split
  · next hc => exact conditionEvent_firstOutHolds hcounted _ (changesAt_enabled hc).1
  · exact hcounted

theorem catchUpPoint_firstOutHolds {i : PointIndex} (he : s.points[i].enabled = true) :
    FirstOutHolds (catchUpPoint s i) := by
  rw [catchUpPoint_eq]
  split
  · exact publish_firstOutHolds hs _ he
  · exact hs

theorem settlePoint_firstOutHolds {i : PointIndex} (he : s.points[i].enabled = false → s.points[i].snapshot = none) :
    FirstOutHolds (settlePoint s i) := by
  unfold settlePoint
  cases hsnap : s.points[i].snapshot with
  | none => exact hs
  | some pair =>
    have henabled : s.points[i].enabled = true := by
      cases hen : s.points[i].enabled with
      | true => rfl
      | false => rw [he hen] at hsnap; cases hsnap
    refine firstOutHolds_congr (publish_firstOutHolds hs pair henabled) rfl (fun j => ?_) rfl
    dsimp only
    rw [get_set_fin]
    split
    · next e => subst e; exact ⟨rfl, rfl, rfl⟩
    · exact ⟨rfl, rfl, rfl⟩

/-- New stale marks and horn flags touch no content and no group. -/
theorem setRows_firstOutHolds (p : StationNo) (f : PointIndex → MirrorRow → MirrorRow)
    (hf : ∀ i row, (f i row).content = row.content ∧ (f i row).group = row.group) :
    FirstOutHolds { s with mirror := setRows p f s.mirror } :=
  firstOutHolds_fewer hs rfl (fun _ => ⟨rfl, rfl, rfl⟩) fun _ q hq => ⟨hq, fun _ => by
    dsimp only
    rw [setRows_get]
    split
    · next e => subst e; exact hf _ _
    · exact ⟨rfl, rfl⟩⟩

theorem silencePublication_firstOutHolds : FirstOutHolds (silencePublication s) :=
  firstOutHolds_fewer hs (by simp [ownNumber]) (by simp) fun _ q hq => ⟨hq, fun _ => by
    rw [silencePublication_remote]
    exact ⟨rfl, rfl⟩⟩

/-- A register drops the points of the rows that become VACANT (R104, R105). -/
theorem vacate_firstOutHolds {p : StationNo} {f : PointIndex → MirrorRow → MirrorRow} {test : PointRef → Bool}
    (hf : ∀ q : PointRef, test q = false → q.owner = p → ∀ row, f q.index row = row) :
    FirstOutHolds { s with mirror := { setRows p f s.mirror with firstOut := s.mirror.firstOut.dropIf test } } := by
  refine firstOutHolds_fewer hs rfl (fun _ => ⟨rfl, rfl, rfl⟩) fun g q hq => ?_
  dsimp only at hq
  rw [FirstOut.get_dropIf, Option.filter_eq_some_iff] at hq
  obtain ⟨hheld, hkept⟩ := hq
  refine ⟨hheld, fun _ => ?_⟩
  dsimp only
  rw [setRows_get]
  split
  · next e => subst e; rw [hf q (by simpa using hkept) rfl]; exact ⟨rfl, rfl⟩
  · exact ⟨rfl, rfl⟩

end Steps

theorem OwnStep.firstOutHolds {s t : State} (h : OwnStep s t) (hown : OwnCoherent s) (hs : FirstOutHolds s) :
    FirstOutHolds t := by
  have hsame : ∀ i : PointIndex, s.points[i].enabled = s.points[i].enabled ∧ s.points[i].group = s.points[i].group ∧
      s.points[i].state = s.points[i].state := fun _ => ⟨rfl, rfl, rfl⟩
  cases h with
  | stands points list mirror disagree number => exact firstOutHolds_congr hs number (by rw [points]; exact hsame) mirror
  | catchUp _ i listed => exact catchUpPoint_firstOutHolds hs (listed_enabled hown listed)
  | acknowledge _ i v => exact versionedClaim_firstOutHolds hs _ i v
  | resetClaim _ i v => exact versionedClaim_firstOutHolds hs _ i v
  | sample longest levels _ i => exact samplePoint_firstOutHolds hs longest levels i
  | refresh => exact firstOutHolds_congr hs (by simp [ownNumber]) (by simp) (by simp)
  | settle _ i =>
    obtain ⟨-, hinert, -⟩ := hown.1 i
    exact settlePoint_firstOutHolds hs fun he => (hinert he).2.2.2.2
  | discard =>
    refine firstOutHolds_congr hs rfl (fun i => ?_) rfl
    simp only [discardSnapshots, get_ofFn_fin, and_self]
  | silence => exact silencePublication_firstOutHolds hs
  | entry p _ e peer => exact takeEntry_firstOutHolds hs e peer
  | vacateMasked p m =>
    refine vacate_firstOutHolds hs fun q hq hp row => ?_
    subst hp
    have hm : m[q.index] = true := by simpa [-Fin.getElem_fin] using hq
    rw [hm]
    rfl
  | vacateAll p => exact vacate_firstOutHolds hs fun q hq hp => by simp [hp] at hq
  | markStale p => exact setRows_firstOutHolds hs p _ fun _ _ => ⟨rfl, rfl⟩
  | clearStale p => exact setRows_firstOutHolds hs p _ fun _ _ => ⟨rfl, rfl⟩

theorem OwnRun.firstOutHolds {s t : State} (h : OwnRun s t) (hown : OwnCoherent s) (hs : FirstOutHolds s) :
    FirstOutHolds t :=
  (OwnRun.keeps (Inv := fun s => OwnCoherent s ∧ FirstOutHolds s)
    (fun _ _ hstep hs => ⟨hstep.ownCoherent hs.1, hstep.firstOutHolds hs.1 hs.2⟩) h ⟨hown, hs⟩).2

/-! ### The commands, the tick and the step -/

/-- With an empty list there is nothing to catch up. -/
theorem catchUpFrom_of_nil {s : State} (before : State) (h : s.list = []) : catchUpFrom before s = s := by
  unfold catchUpFrom catchUp
  rw [h]
  split <;> rfl

/-- With an empty list the entry to LISTEN publishes nothing, even where it goes on to WARNING (R61, R94). -/
theorem enterListen_of_nil {s : State} (h : s.list = []) :
    (enterListen s).points = s.points ∧ (enterListen s).mirror = s.mirror := by
  simp only [enterListen]
  split
  · simp only [supplyWarned, enterWarning, stopPresence]
    rw [catchUpFrom_of_nil]
    · exact ⟨rfl, rfl⟩
    · exact h
  · exact ⟨rfl, rfl⟩

theorem loaded_of_nil {s : State} (h : s.list = []) :
    (loaded s).points = Vector.ofFn (fun i => configure (settingsFor s.startup).points[i] s.points[i]) ∧
      (loaded s).mirror = s.mirror :=
  enterListen_of_nil (by exact h)

theorem beginAttempt_firstOutHolds {c : Choice} {s : State} (hs : FirstOutHolds s) : FirstOutHolds (beginAttempt c s) := by
  have hnumber : ownNumber (beginAttempt c s) = ownNumber s := by simp [ownNumber]
  refine firstOutHolds_congr hs hnumber (fun i => ?_) (by simp)
  rw [beginAttempt_points]
  split
  · simp only [takeSnapshots, get_ofFn_fin]
    split <;> exact ⟨rfl, rfl, rfl⟩
  · exact ⟨rfl, rfl, rfl⟩

theorem exec_firstOutHolds {c : Instr} {s t : State} (h : exec c s = .next t) (hreset : ResetHeld s)
    (hq : LoadingQuiescent s) (hown : OwnCoherent s) (hs : FirstOutHolds s) : FirstOutHolds t := by
  have hempty : ∀ u : State, LoadingQuiescent u → u.member.own = .loading → u.mirror = .reset := fun u hu hload => by
    obtain ⟨-, -, -, -, -, -, -, hmirror, -⟩ := hu hload
    exact hmirror
  have hqt := exec_loadingQuiescent h hq
  by_cases hload : s.member.own = .loading
  · rcases exec_loading_cases h hq hload with hstays | rfl
    · exact firstOutHolds_of_empty (by rw [hempty t hqt hstays]; rfl)
    · obtain ⟨-, -, hlist, -⟩ := hq hload
      refine firstOutHolds_of_empty ?_
      rw [(loaded_of_nil hlist).2, hempty s hq hload]
      rfl
  by_cases hstation : ∃ cause, c = .stationReset cause
  · obtain ⟨cause, rfl⟩ := hstation
    obtain rfl := Host.Outcome.next.inj h
    exact firstOutHolds_of_empty rfl
  by_cases hrelease : ∃ straps, c = .releaseOfReset straps
  · obtain ⟨straps, rfl⟩ := hrelease
    simp only [exec, execReleaseOfReset] at h
    split at h
    · next hin => exact absurd (by rw [hreset hin]; rfl) hload
    · obtain rfl := Host.Outcome.next.inj h
      exact hs
  by_cases hslot : ∃ cls, c = .slotStart cls
  · obtain ⟨cls, rfl⟩ := hslot
    rcases exec_slotStart_cases h with rfl | ⟨l, -, rfl | ⟨c, -, -, rfl⟩⟩
    · exact hs
    · exact hs
    · exact beginAttempt_firstOutHolds (s := slotBegun cls l s) hs
  exact (exec_ownRun h (fun _ e => hstation ⟨_, e⟩) (fun _ e => hrelease ⟨_, e⟩) (fun _ e => hslot ⟨_, e⟩)
    fun _ => hload).firstOutHolds hown hs

/-- Settles O58: a register takes a point of its group with a new raise, and every step that makes the row QUIET or VACANT or
changes its group takes the point from the register. -/
theorem firstOutHoldsARaisedPoint : Obligations.FirstOutHoldsARaisedPoint := by
  rintro s t ⟨hreset, hq, hpoints, hlist, -, -, hfirst⟩ h
  rw [firstOutCoherent_iff] at hfirst ⊢
  obtain ⟨-, -, -, hholds⟩ := step_keeps
    (Inv := fun s => ResetHeld s ∧ LoadingQuiescent s ∧ OwnCoherent s ∧ FirstOutHolds s)
    (fun s q hs => ⟨resetHeld_pending s q hs.1, hs.2⟩)
    (fun _ _ _ h ⟨hreset, hq, hown, hs⟩ => ⟨exec_resetHeld h hreset, exec_loadingQuiescent h hq,
      exec_ownCoherent h hq hown, exec_firstOutHolds h hreset hq hown hs⟩)
    (fun _ hin ⟨hreset, hq, hown, hs⟩ => ⟨tick_resetHeld hin, tick_loadingQuiescent hq,
      hown.congr (by simp) (by simp) (by simp),
      firstOutHolds_congr hs (by simp [ownNumber, tickCounters]) (by simp) (by simp)⟩)
    ⟨hreset, hq, ⟨hpoints, hlist⟩, hfirst⟩ h
  exact hholds

end Sys2Proof.Machine
end

section
/-! PROOFS. The Request Queue: its bounds, and its agreement with the Presence Table and the attempt, that every step
keeps (O54). -/

namespace Sys2Proof.Machine

open Sys2Proof.Safety

/-! ### The operations on the Request Queue

What each keeps: that the queue is bounded, and that its entries agree with the present peers and with the kind of the frame in
flight. -/

/-- The entries agree with the stations that are PRESENT and with the kind of the frame in flight, if there is one (R122, R123,
R125, R127). -/
structure EntriesAgree (present : StationNo → Bool) (flight : Option FrameKind) (es : List RequestEntry) : Prop where
  target : ∀ e ∈ es, ∀ p ∈ targetOf e.request, present p = true
  range : ∀ e ∈ es, requestInRange e.request = true
  tail : ∀ e ∈ es.tail, e.inFlight = false
  merged : ∀ e ∈ es, e.merged = true → e.inFlight = true
  kind : ∀ e ∈ es, e.inFlight = true → flight = some (requestKind e.request)

theorem sameKey_iff (a b : Request) :
    sameKey a b = true ↔ requestKind a = requestKind b ∧ targetOf a = targetOf b := by
  simp [sameKey]

theorem sameKey_eq_false_iff (a b : Request) :
    sameKey a b = false ↔ ¬(requestKind a = requestKind b ∧ targetOf a = targetOf b) := by
  rw [← sameKey_iff, Bool.not_eq_true]

/-- A merge keeps the kind and the target of every entry, and its in-flight mark (R123). -/
theorem mergeInto_key (r : Request) (e : RequestEntry) :
    requestKind (mergeInto r e).request = requestKind e.request ∧ targetOf (mergeInto r e).request = targetOf e.request ∧
      (mergeInto r e).inFlight = e.inFlight := by
  unfold mergeInto
  split
  · next h =>
    obtain ⟨hkind, htarget⟩ := (sameKey_iff _ _).mp h
    exact ⟨hkind.symm, htarget.symm, rfl⟩
  · exact ⟨rfl, rfl, rfl⟩

theorem sameKey_mergeInto (r : Request) (a b : RequestEntry) :
    sameKey (mergeInto r a).request (mergeInto r b).request = sameKey a.request b.request := by
  obtain ⟨hka, hta, -⟩ := mergeInto_key r a
  obtain ⟨hkb, htb, -⟩ := mergeInto_key r b
  rw [sameKey, sameKey, hka, hta, hkb, htb]

/-! ### Bounds -/

theorem offer_bounded {q : RequestQueue} (h : QueueBounded q) (r : Request) : QueueBounded (offer q r) := by
  obtain ⟨hlength, hkeys⟩ := h
  unfold offer
  split
  · refine ⟨by simpa using hlength, ?_⟩
    rw [List.pairwise_map]
    exact hkeys.imp fun hne => by rw [sameKey_mergeInto]; exact hne
  · next hnew =>
    split
    · next hroom =>
      refine ⟨by simpa using hroom, List.pairwise_append.mpr ⟨hkeys, by simp, fun a ha b hb => ?_⟩⟩
      obtain rfl := List.mem_singleton.mp hb
      rw [Bool.not_eq_true, List.any_eq_false] at hnew
      exact eq_false_of_ne_true (hnew a ha)
    · exact ⟨hlength, hkeys⟩

theorem offers_bounded {q : RequestQueue} (h : QueueBounded q) (rs : List Request) : QueueBounded (rs.foldl offer q) := by
  induction rs generalizing q with
  | nil => exact h
  | cons r rs ih => exact ih (offer_bounded h r)

theorem pressOffers_bounded {q : RequestQueue} (h : QueueBounded q) (rs : List Request) : QueueBounded (pressOffers rs q) :=
  offers_bounded (q := { q with refused := false }) h rs

theorem removeTarget_bounded {q : RequestQueue} (h : QueueBounded q) (p : StationNo) : QueueBounded (removeTarget p q) :=
  ⟨(List.length_filter_le _ _).trans h.1, h.2.filter _⟩

/-- Writing the marks of the head. -/
theorem head_bounded {q : RequestQueue} {e e' : RequestEntry} {rest : List RequestEntry} (h : QueueBounded q)
    (hq : q.entries = e :: rest) (hrequest : e'.request = e.request) : QueueBounded { q with entries := e' :: rest } := by
  obtain ⟨hlength, hkeys⟩ := h
  rw [hq] at hlength hkeys
  rw [List.pairwise_cons] at hkeys
  exact ⟨hlength, List.pairwise_cons.mpr ⟨fun b hb => by rw [hrequest]; exact hkeys.1 b hb, hkeys.2⟩⟩

theorem markHeadInFlight_bounded {q : RequestQueue} (h : QueueBounded q) : QueueBounded (markHeadInFlight q) := by
  unfold markHeadInFlight
  split
  · next e rest hq => exact head_bounded h hq rfl
  · exact h

theorem requestSucceeded_bounded {q : RequestQueue} (h : QueueBounded q) : QueueBounded (requestSucceeded q) := by
  unfold requestSucceeded
  split
  · next e rest hq =>
    split
    · split
      · exact head_bounded h hq rfl
      · obtain ⟨hlength, hkeys⟩ := h
        rw [hq] at hlength hkeys
        exact ⟨Nat.le_of_succ_le hlength, (List.pairwise_cons.mp hkeys).2⟩
    · exact h
  · exact h

theorem requestFailed_bounded {q : RequestQueue} (h : QueueBounded q) : QueueBounded (requestFailed q) := by
  unfold requestFailed
  split
  · next e rest hq =>
    split
    · exact head_bounded h hq rfl
    · exact h
  · exact h

/-! ### Agreement -/

section Agree

variable {present : StationNo → Bool} {flight : Option FrameKind} {es : List RequestEntry}

/-- More stations may be PRESENT. -/
theorem EntriesAgree.present_mono {present' : StationNo → Bool} (h : EntriesAgree present flight es)
    (hmono : ∀ p, present p = true → present' p = true) : EntriesAgree present' flight es :=
  { h with target := fun e he p hp => hmono p (h.target e he p hp) }

/-- Nothing is in flight. -/
def NoneInFlight (es : List RequestEntry) : Prop := ∀ e ∈ es, e.inFlight = false

theorem EntriesAgree.noneInFlight (h : EntriesAgree present none es) : NoneInFlight es := by
  intro e he
  cases hf : e.inFlight with
  | false => rfl
  | true => cases h.kind e he hf

/-- Entries of which none is in flight agree with any frame. -/
theorem EntriesAgree.of_noneInFlight {flight' : Option FrameKind} (h : EntriesAgree present flight es)
    (hnone : NoneInFlight es) : EntriesAgree present flight' es :=
  { h with kind := fun e he hf => absurd ((hnone e he).symm.trans hf) (by decide) }

/-- Where the frame in flight was not built from the queue, no entry is in flight. -/
theorem EntriesAgree.noneInFlight_of_kind {k : FrameKind} (h : EntriesAgree present (some k) es)
    (hk : ∀ r, requestKind r ≠ k) : NoneInFlight es := by
  intro e he
  cases hf : e.inFlight with
  | false => rfl
  | true => exact absurd (Option.some.inj (h.kind e he hf)).symm (hk _)

/-- An offer to a PRESENT peer, or to none, with its list in range (R118, R119, R120, R123). -/
def Offerable (present : StationNo → Bool) (r : Request) : Prop :=
  (∀ p ∈ targetOf r, present p = true) ∧ requestInRange r = true

theorem mergeInto_agrees {r : Request} (hr : Offerable present r) {e : RequestEntry}
    (htarget : ∀ p ∈ targetOf e.request, present p = true) (hrange : requestInRange e.request = true)
    (hmerged : e.merged = true → e.inFlight = true) :
    (∀ p ∈ targetOf (mergeInto r e).request, present p = true) ∧ requestInRange (mergeInto r e).request = true ∧
      ((mergeInto r e).merged = true → (mergeInto r e).inFlight = true) := by
  unfold mergeInto
  split
  · exact ⟨hr.1, hr.2, fun h => (Bool.or_eq_true _ _ ▸ h).elim hmerged id⟩
  · exact ⟨htarget, hrange, hmerged⟩

theorem offer_agrees {q : RequestQueue} (h : EntriesAgree present flight q.entries) {r : Request}
    (hr : Offerable present r) : EntriesAgree present flight (offer q r).entries := by
  unfold offer
  split
  · have hentry : ∀ e ∈ q.entries, _ := fun e he => mergeInto_agrees hr (h.target e he) (h.range e he) (h.merged e he)
    constructor
    · intro e' he'
      obtain ⟨e, he, rfl⟩ := List.mem_map.mp he'
      exact (hentry e he).1
    · intro e' he'
      obtain ⟨e, he, rfl⟩ := List.mem_map.mp he'
      exact (hentry e he).2.1
    · intro e' he'
      rw [← List.map_tail] at he'
      obtain ⟨e, he, rfl⟩ := List.mem_map.mp he'
      rw [(mergeInto_key r e).2.2]
      exact h.tail e he
    · intro e' he'
      obtain ⟨e, he, rfl⟩ := List.mem_map.mp he'
      exact (hentry e he).2.2
    · intro e' he' hf
      obtain ⟨e, he, rfl⟩ := List.mem_map.mp he'
      obtain ⟨hkind, -, hflight⟩ := mergeInto_key r e
      rw [hkind]
      exact h.kind e he (hflight ▸ hf)
  · split
    · have hmem : ∀ e, e ∈ q.entries ++ [{ request := r, inFlight := false, merged := false }] →
          e ∈ q.entries ∨ e = { request := r, inFlight := false, merged := false } := by simp
      constructor
      · intro e he
        rcases hmem e he with he | rfl
        · exact h.target e he
        · exact hr.1
      · intro e he
        rcases hmem e he with he | rfl
        · exact h.range e he
        · exact hr.2
      · intro e he
        cases hq : q.entries with
        | nil => simp [hq] at he
        | cons a rest =>
          have htail := h.tail
          rw [hq] at htail
          simp only [hq, List.cons_append, List.tail_cons, List.mem_append, List.mem_singleton] at he
          rcases he with he | rfl
          · exact htail e he
          · rfl
      · intro e he
        rcases hmem e he with he | rfl
        · exact h.merged e he
        · exact fun h => h
      · intro e he
        rcases hmem e he with he | rfl
        · exact h.kind e he
        · exact fun h => absurd h Bool.false_ne_true
    · exact h

theorem offers_agree {q : RequestQueue} (h : EntriesAgree present flight q.entries) (rs : List Request)
    (hrs : ∀ r ∈ rs, Offerable present r) : EntriesAgree present flight (rs.foldl offer q).entries := by
  induction rs generalizing q with
  | nil => exact h
  | cons r rs ih =>
    exact ih (offer_agrees h (hrs r List.mem_cons_self)) fun r' hr' => hrs r' (List.mem_cons_of_mem r hr')

theorem mem_tail_filter {test : RequestEntry → Bool} {e : RequestEntry} (l : List RequestEntry)
    (h : e ∈ (l.filter test).tail) : e ∈ l.tail := by
  cases l with
  | nil => simp at h
  | cons a rest =>
    rw [List.filter_cons] at h
    split at h
    · exact List.mem_of_mem_filter h
    · exact List.mem_of_mem_filter (List.mem_of_mem_tail h)

/-- Removing the requests to a station that is not PRESENT any more (R127). -/
theorem removeTarget_agrees {q : RequestQueue} {p : StationNo} {present' : StationNo → Bool}
    (h : EntriesAgree present flight q.entries) (hother : ∀ r, r ≠ p → present r = true → present' r = true) :
    EntriesAgree present' flight (removeTarget p q).entries := by
  have hmem : ∀ e ∈ (removeTarget p q).entries, e ∈ q.entries ∧ targetOf e.request ≠ some p := by
    intro e he
    obtain ⟨he, hne⟩ := List.mem_filter.mp he
    exact ⟨he, by simpa using hne⟩
  constructor
  · intro e he r hr
    obtain ⟨he, hne⟩ := hmem e he
    exact hother r (fun hrp => hne (hrp ▸ hr)) (h.target e he r hr)
  · exact fun e he => h.range e (hmem e he).1
  · exact fun e he => h.tail e (mem_tail_filter _ he)
  · exact fun e he => h.merged e (hmem e he).1
  · exact fun e he => h.kind e (hmem e he).1

/-- The head goes in flight with the frame built from it (R125). -/
theorem markHeadInFlight_agrees {q : RequestQueue} {e : RequestEntry} {rest : List RequestEntry}
    (h : EntriesAgree present none q.entries) (hq : q.entries = e :: rest) :
    EntriesAgree present (some (requestKind e.request)) (markHeadInFlight q).entries := by
  have hnone := h.noneInFlight
  rw [hq] at h hnone
  have hentries : (markHeadInFlight q).entries = { e with inFlight := true, merged := false } :: rest := by
    simp only [markHeadInFlight, hq]
  rw [hentries]
  have hrest : ∀ x ∈ rest, x ∈ e :: rest := fun x hx => List.mem_cons_of_mem e hx
  constructor
  · rintro x (_ | ⟨_, hx⟩)
    · exact h.target e List.mem_cons_self
    · exact h.target x (hrest x hx)
  · rintro x (_ | ⟨_, hx⟩)
    · exact h.range e List.mem_cons_self
    · exact h.range x (hrest x hx)
  · exact fun x hx => hnone x (hrest x hx)
  · rintro x (_ | ⟨_, hx⟩)
    · exact fun hm => absurd hm Bool.false_ne_true
    · exact h.merged x (hrest x hx)
  · rintro x (_ | ⟨_, hx⟩) hf
    · rfl
    · exact absurd ((hnone x (hrest x hx)).symm.trans hf) (by decide)

/-- After the end of an attempt built from the queue nothing is in flight (R126): the head is unmarked or gone. -/
theorem head_settled {e : RequestEntry} {rest : List RequestEntry} {flight' : Option FrameKind}
    (h : EntriesAgree present flight (e :: rest)) :
    EntriesAgree present flight' rest ∧
      EntriesAgree present flight' ({ e with inFlight := false, merged := false } :: rest) := by
  have hrest : ∀ x ∈ rest, x ∈ e :: rest := fun x hx => List.mem_cons_of_mem e hx
  have hnone : NoneInFlight rest := h.tail
  have htail : EntriesAgree present flight' rest :=
    { target := fun x hx => h.target x (hrest x hx), range := fun x hx => h.range x (hrest x hx)
      tail := fun x hx => hnone x (List.mem_of_mem_tail hx), merged := fun x hx => h.merged x (hrest x hx)
      kind := fun x hx hf => absurd ((hnone x hx).symm.trans hf) (by decide) }
  refine ⟨htail, ?_, ?_, hnone, ?_, ?_⟩
  · rintro x (_ | ⟨_, hx⟩)
    · exact h.target e List.mem_cons_self
    · exact htail.target x hx
  · rintro x (_ | ⟨_, hx⟩)
    · exact h.range e List.mem_cons_self
    · exact htail.range x hx
  · rintro x (_ | ⟨_, hx⟩)
    · exact fun hm => absurd hm Bool.false_ne_true
    · exact htail.merged x hx
  · rintro x (_ | ⟨_, hx⟩) hf
    · exact absurd hf Bool.false_ne_true
    · exact htail.kind x hx hf

theorem noneInFlight_of_head {e : RequestEntry} {rest : List RequestEntry}
    (h : EntriesAgree present flight (e :: rest)) (he : ¬e.inFlight = true) : NoneInFlight (e :: rest) := by
  rintro x (_ | ⟨_, hx⟩)
  · exact eq_false_of_ne_true he
  · exact h.tail x hx

theorem requestSucceeded_agrees {q : RequestQueue} {flight' : Option FrameKind}
    (h : EntriesAgree present flight q.entries) : EntriesAgree present flight' (requestSucceeded q).entries := by
  unfold requestSucceeded
  split
  · next e rest hq =>
    rw [hq] at h
    split
    · split
      · exact (head_settled h).2
      · exact (head_settled h).1
    · next he => rw [hq]; exact h.of_noneInFlight (noneInFlight_of_head h he)
  · next hq => rw [hq]; constructor <;> simp

theorem requestFailed_agrees {q : RequestQueue} {flight' : Option FrameKind}
    (h : EntriesAgree present flight q.entries) : EntriesAgree present flight' (requestFailed q).entries := by
  unfold requestFailed
  split
  · next e rest hq =>
    rw [hq] at h
    split
    · exact (head_settled h).2
    · next he => rw [hq]; exact h.of_noneInFlight (noneInFlight_of_head h he)
  · next hq => rw [hq]; constructor <;> simp

end Agree

/-! ### What the keys offer -/

/-- The pairs of the requests of one press are in rising index, and so in range (R118, R119). -/
theorem requestFor_eq_some {make : StationNo → List ReqPair → Request} {test : PointState → Bool} {s : State}
    {p : StationNo} {r : Request} (h : requestFor make test s p = some r) :
    isPresent s p = true ∧ ∃ pairs, r = make p pairs ∧ pairsInRange pairs = true := by
  unfold requestFor at h
  dsimp only at h
  split at h
  · next hready =>
    rw [Bool.and_eq_true] at hready
    obtain ⟨hpresent, hsome⟩ := hready
    refine ⟨hpresent, _, (Option.some.inj h).symm, ?_⟩
    simp only [pairsInRange, Bool.and_eq_true, decide_eq_true_eq]
    refine ⟨⟨?_, ?_⟩, ?_⟩
    · exact List.length_pos_iff.mpr (by simpa using hsome)
    · exact (List.length_filterMap_le _ _).trans (by simp)
    · rw [List.pairwise_map, List.pairwise_filterMap]
      refine (List.pairwise_lt_finRange 16).imp fun {i j} hij a ha b hb => ?_
      have hindex : ∀ (k : PointIndex) (x : ReqPair),
          (match (rowOf s p k).content with
            | some pair => if test pair.state then some { index := k, version := pair.version : ReqPair } else none
            | none => none) = some x → x.index = k := by
        intro k x hx
        split at hx
        · split at hx
          · rw [← Option.some.inj hx]
          · cases hx
        · cases hx
      rw [hindex i a ha, hindex j b hb]
      exact hij
  · cases h

theorem requestsOf_offerable {make : StationNo → List ReqPair → Request} {test : PointState → Bool} {s : State}
    (hmake : ∀ p pairs, targetOf (make p pairs) = some p ∧ requestInRange (make p pairs) = pairsInRange pairs)
    {r : Request} (hr : r ∈ requestsOf make test s) : Offerable (isPresent s) r := by
  obtain ⟨p, -, hp⟩ := List.mem_filterMap.mp hr
  obtain ⟨hpresent, pairs, rfl, hrange⟩ := requestFor_eq_some hp
  obtain ⟨htarget, hin⟩ := hmake p pairs
  refine ⟨fun q hq => ?_, hin.trans hrange⟩
  rw [htarget] at hq
  exact Option.some.inj hq ▸ hpresent

/-! ### The queue at each command -/

/-- The queue after the operations that keep both its bounds and its agreement with this presence. -/
inductive QueueStep (present : StationNo → Bool) : RequestQueue → RequestQueue → Prop
  | stands (q : RequestQueue) : QueueStep present q q
  | offers (q : RequestQueue) (rs : List Request) (hrs : ∀ r ∈ rs, Offerable present r) :
      QueueStep present q (pressOffers rs q)
  | trans {q q' q'' : RequestQueue} (h : QueueStep present q q') (h' : QueueStep present q' q'') : QueueStep present q q''

theorem QueueStep.bounded {present : StationNo → Bool} {q q' : RequestQueue} (h : QueueStep present q q')
    (hq : QueueBounded q) : QueueBounded q' := by
  induction h with
  | stands => exact hq
  | offers q rs => exact pressOffers_bounded hq rs
  | trans _ _ ih ih' => exact ih' (ih hq)

theorem QueueStep.agrees {present : StationNo → Bool} {flight : Option FrameKind} {q q' : RequestQueue}
    (h : QueueStep present q q') (hq : EntriesAgree present flight q.entries) : EntriesAgree present flight q'.entries := by
  induction h with
  | stands => exact hq
  | offers q rs hrs => exact offers_agree (q := { q with refused := false }) hq rs hrs
  | trans _ _ ih ih' => exact ih' (ih hq)

theorem isPresent_congr {s t : State} (hpeers : t.peers = s.peers) (hnumber : ownNumber t = ownNumber s) :
    isPresent t = isPresent s := by
  funext p
  unfold isPresent
  rw [hpeers, hnumber]

theorem pressKack_queue (s : State) : (pressKack s).queue = pressOffers (requestsOf .ackReq unacked s) s.queue := by
  simp [pressKack, acknowledge_eta]

theorem pressKrst_queue (s : State) : (pressKrst s).queue = pressOffers (requestsOf .resetReq isCleared s) s.queue := by
  simp [pressKrst, resetClaim_eta]

theorem pressKsil_queue (s : State) : (pressKsil s).queue = pressOffers [.silence] s.queue := by
  simp only [pressKsil]
  split <;> simp

theorem sampleKack_queueStep (level : Bool) (s : State) : QueueStep (isPresent s) s.queue (sampleKack level s).queue := by
  simp only [sampleKack]
  split
  · rw [pressKack_queue]
    exact .offers _ _ fun r hr => requestsOf_offerable (fun _ _ => ⟨rfl, rfl⟩) hr
  · exact .stands _

theorem sampleKrst_queueStep (level : Bool) (s : State) : QueueStep (isPresent s) s.queue (sampleKrst level s).queue := by
  simp only [sampleKrst]
  split
  · rw [pressKrst_queue]
    exact .offers _ _ fun r hr => requestsOf_offerable (fun _ _ => ⟨rfl, rfl⟩) hr
  · exact .stands _

theorem sampleKsil_queueStep (level : Bool) (s : State) : QueueStep (isPresent s) s.queue (sampleKsil level s).queue := by
  simp only [sampleKsil]
  split
  · rw [pressKsil_queue]
    refine .offers _ _ fun r hr => ?_
    obtain rfl := List.mem_singleton.mp hr
    exact ⟨fun p hp => by simp [targetOf] at hp, rfl⟩
  · exact .stands _

theorem keySample_queueStep {levels : KeyPins} {s t : State} (h : exec (.keySample levels) s = .next t) :
    QueueStep (isPresent s) s.queue t.queue := by
  cases hl : loading s with
  | true =>
    rw [exec_keySample_loading levels s hl] at h
    obtain rfl := Host.Outcome.next.inj h
    exact .stands _
  | false =>
    rw [exec_keySample_running levels s hl] at h
    obtain rfl := Host.Outcome.next.inj h
    have hpins : ∀ pins, isPresent { s with pins := pins } = isPresent s := fun _ => rfl
    have hkack := sampleKack_queueStep levels.kack { s with pins := { s.pins with keys := levels } }
    have hkrst := sampleKrst_queueStep levels.krst (sampleKack levels.kack { s with pins := { s.pins with keys := levels } })
    have hksil := sampleKsil_queueStep levels.ksil
      (sampleKrst levels.krst (sampleKack levels.kack { s with pins := { s.pins with keys := levels } }))
    rw [isPresent_congr (s := s) (by simp) (by simp [ownNumber])] at hkrst hksil
    rw [hpins] at hkack
    simpa using (hkack.trans hkrst).trans hksil

/-- The commands that can write the Request Queue. -/
def touchesQueue : Instr → Bool
  | .stationReset _ => true
  | .keySample _ => true
  | .slotStart _ => true
  | .attemptSuccess => true
  | .attemptFailure => true
  | .lostTimerExpiry _ => true
  | .receivePresence _ _ => true
  | .receiveHello _ _ => true
  | .receiveAnnounce _ _ => true
  | .receiveAckReq _ _ _ => true
  | .receiveResetReq _ _ _ => true
  | .receiveRefreshReq _ _ => true
  | .receiveSilence _ => true
  | .receiveDepart _ => true
  | _ => false

/-- All other commands leave the Request Queue as it is. -/
theorem exec_queue {c : Instr} {s t : State} (h : exec c s = .next t) (hc : touchesQueue c = false) :
    t.queue = s.queue := by
  cases c with
  | stationReset | keySample | slotStart | attemptSuccess | attemptFailure | lostTimerExpiry | receivePresence
  | receiveHello | receiveAnnounce | receiveAckReq | receiveResetReq | receiveRefreshReq | receiveSilence
  | receiveDepart =>
    simp [touchesQueue] at hc
  | fieldInputSample longest levels =>
    cases hl : loading s with
    | true =>
      rw [exec_fieldInputSample_loading longest levels s hl] at h
      obtain rfl := Host.Outcome.next.inj h
      rfl
    | false =>
      rw [exec_fieldInputSample_running longest levels s hl] at h
      obtain rfl := Host.Outcome.next.inj h
      simp
  | endOfLoading =>
    simp only [exec, execEndOfLoading] at h
    split at h <;> obtain rfl := Host.Outcome.next.inj h <;> simp
  | ownStartMarkEnd =>
    rcases exec_ownStartMarkEnd_cases h with rfl | ⟨a, -, -, -, rfl⟩ <;> rfl
  | collision half =>
    rcases exec_collision_cases h with rfl | ⟨a, -, -, rfl⟩ <;> rfl
  | receiveOwnNumberFrame | jamEvent | listenWindowEnd | supplyWarningEvent | supplyRecoveryEvent | damagedFrame | spike
  | unframedCarrier =>
    simp only [exec, execReceiveOwnNumberFrame, execJamEvent, execListenWindowEnd, execSupplyWarningEvent,
      execSupplyRecoveryEvent, execDamagedFrame, execSpike, execUnframedCarrier] at h
    split at h <;> obtain rfl := Host.Outcome.next.inj h <;> simp
  | releaseOfReset | lineBusy | lineQuiet | ladderRepeat | ladderStartAfterUnheardAttempt | presenceTimerExpiry
  | startOfFrame | firstHighSample | cdiSample | commonPeriodStart | toneInstant =>
    simp only [exec, execReleaseOfReset, execLineBusy, execLineQuiet, execLadderRepeat, execLadderStartAfterUnheardAttempt,
      execPresenceTimerExpiry, execStartOfFrame, execFirstHighSample, execCdiSample, execCommonPeriodStart,
      execToneInstant] at h
    (repeat' split at h) <;> obtain rfl := Host.Outcome.next.inj h <;> rfl

/-! ### The queue at a build, at the end of an attempt and at a frame of a peer -/

theorem beginAttempt_queue (c : Choice) (s : State) :
    (beginAttempt c s).queue = match c with | .request _ => markHeadInFlight s.queue | _ => s.queue := by
  cases c <;> rfl

theorem reportSuccess_queue (b : Body) (s : State) :
    (reportSuccess b s).queue = if isRequest b then requestSucceeded s.queue else s.queue := by
  cases b <;> simp [reportSuccess, isRequest]

theorem reportFailure_queue (b : Body) (s : State) :
    (reportFailure b s).queue = if isRequest b then requestFailed s.queue else s.queue := by
  cases b <;> simp [reportFailure, isRequest]

/-- A frame that was built from no request. -/
theorem requestKind_ne_of_not_request {b : Body} (h : ¬isRequest b = true) (r : Request) : requestKind r ≠ bodyKind b := by
  cases b <;> cases r <;> simp_all [isRequest, requestKind, bodyKind]

theorem succeeded_queue (a : Attempt) (s : State) :
    (succeeded a s).queue = if isRequest a.frame.body then requestSucceeded s.queue else s.queue := by
  simp only [succeeded, noteHorn_frame, catchUpAfter_frame, refreshIf_frame, reportSuccess_queue, successSteps_frame]

theorem failed_queue (a : Attempt) (s : State) :
    (failed a s).queue = if isRequest a.frame.body then requestFailed s.queue else s.queue := by
  simp only [failed, noteHorn_frame, catchUpFailed_frame, reportFailure_queue, failureSteps_frame]

theorem becamePresent_queue (p : StationNo) (s : State) : (becamePresent p s).queue = s.queue := by simp

theorem lostPresence_queue (p : StationNo) (s : State) : (lostPresence p s).queue = removeTarget p s.queue := by
  simp [lostPresence]

/-- The queue once a peer is heard: the requests to a peer that departs go, and a refresh request may be offered (R74, R127,
Table 45). -/
theorem peerHeard_queue (h : Header) (kind : FrameKind) (s : State) :
    (peerHeard h kind s).queue =
      if kind = .depart then
        if s.peers[h.sender].state = .departed then s.queue else removeTarget h.sender s.queue
      else if wantsRefresh s.peers[h.sender] kind h.sequence then offer s.queue (.refreshReq h.sender)
      else s.queue := by
  by_cases hkind : kind = .depart
  · subst hkind
    rw [peerHeard_depart, if_pos rfl]
    by_cases hstate : s.peers[h.sender].state = .departed
    · rw [if_pos hstate, if_pos hstate]
    · rw [if_neg hstate, if_neg hstate, lostPresence_queue]
  · have hqueue : ∀ u : State,
        (if s.peers[h.sender].state = (entryAfter kind h).state then u else becamePresent h.sender u).queue = u.queue := by
      intro u
      split
      · rfl
      · exact becamePresent_queue _ u
    have hpresent : (entryAfter kind h).state = .present := if_neg hkind
    unfold peerHeard
    dsimp only
    rw [if_neg hkind, if_pos hpresent]
    split
    · exact congrArg (offer · _) (hqueue _)
    · exact hqueue _

theorem takePeerFrame_queue (f : Frame) (s : State) :
    (takePeerFrame f s).queue = (peerHeard f.header (bodyKind f.body) (rotateTo f.header.sender s)).queue := by
  simp [takePeerFrame]

theorem peerHeard_bounded (h : Header) (kind : FrameKind) {s : State} (hq : QueueBounded s.queue) :
    QueueBounded (peerHeard h kind s).queue := by
  rw [peerHeard_queue]
  (repeat' split)
  · exact hq
  · exact removeTarget_bounded hq _
  · exact offer_bounded hq _
  · exact hq

theorem takeFrame_bounded (f : Frame) {s : State} (hq : QueueBounded s.queue) : QueueBounded (takeFrame f s).queue := by
  unfold takeFrame
  (repeat' split)
  · exact hq
  · simpa using hq
  · simpa using hq
  · rw [takePeerFrame_queue]
    exact peerHeard_bounded _ _ (by simpa using hq)

/-! ### Bounds at every command -/

theorem exec_queueBounded {c : Instr} {s t : State} (h : exec c s = .next t) (hq : QueueBounded s.queue) :
    QueueBounded t.queue := by
  by_cases hc : touchesQueue c = false
  · rw [exec_queue h hc]
    exact hq
  cases c with
  | stationReset cause =>
    obtain rfl := Host.Outcome.next.inj h
    exact ⟨by simp [RequestQueue.reset], by simp [RequestQueue.reset]⟩
  | keySample levels => exact (keySample_queueStep h).bounded hq
  | slotStart cls =>
    rcases exec_slotStart_cases h with rfl | ⟨l, -, rfl | ⟨c, -, -, rfl⟩⟩
    · exact hq
    · exact hq
    · rw [beginAttempt_queue]
      split
      · exact markHeadInFlight_bounded hq
      · exact hq
  | attemptSuccess =>
    rcases exec_attemptSuccess_cases h with rfl | ⟨a, -, -, -, -, rfl⟩
    · exact hq
    · rw [succeeded_queue]
      split
      · exact requestSucceeded_bounded hq
      · exact hq
  | attemptFailure =>
    rcases exec_attemptFailure_cases h with rfl | ⟨a, -, -, rfl⟩
    · exact hq
    · rw [failed_queue]
      split
      · exact requestFailed_bounded hq
      · exact hq
  | lostTimerExpiry p =>
    simp only [exec, execLostTimerExpiry] at h
    split at h <;> obtain rfl := Host.Outcome.next.inj h
    · rw [lostPresence_queue]
      exact removeTarget_bounded hq p
    · exact hq
  | receivePresence | receiveHello | receiveAnnounce | receiveAckReq | receiveResetReq | receiveRefreshReq
  | receiveSilence | receiveDepart =>
    obtain rfl := Host.Outcome.next.inj h
    exact takeFrame_bounded _ hq
  | _ => exact absurd rfl hc

/-! ### Agreement at every command -/

/-- The queue of a state agrees with its Presence Table and its attempt. -/
def QueueAgrees (s : State) : Prop :=
  EntriesAgree (isPresent s) ((bodyInFlight s.access).map bodyKind) s.queue.entries

theorem queueCoherent_iff (s : State) : QueueCoherent s ↔ QueueAgrees s := by
  have hflight : ∀ k, (∃ a ∈ s.access.attempt, bodyKind a.frame.body = k) ↔
      (bodyInFlight s.access).map bodyKind = some k := by
    intro k
    unfold bodyInFlight
    cases s.access.attempt <;> simp
  constructor
  · rintro ⟨htarget, hrange, htail, hmerged, hkind⟩
    exact ⟨htarget, hrange, htail, hmerged, fun e he hf => (hflight _).mp (hkind e he hf)⟩
  · rintro ⟨htarget, hrange, htail, hmerged, hkind⟩
    exact ⟨htarget, hrange, htail, hmerged, fun e he hf => (hflight _).mpr (hkind e he hf)⟩

theorem queueAgrees_of_empty {s : State} (h : s.queue = .reset) : QueueAgrees s := by
  unfold QueueAgrees
  rw [h]
  constructor <;> simp [RequestQueue.reset]

/-- The presence of the peers after a frame of one: that one is PRESENT, or departed. -/
theorem isPresent_takePeerFrame {f : Frame} {s : State} (hp : f.header.sender ≠ ownNumber s) (q : StationNo) :
    isPresent (takePeerFrame f s) q =
      if q = f.header.sender then bodyKind f.body != .depart else isPresent s q := by
  have hnumber : ownNumber (takePeerFrame f s) = ownNumber s := by simp [ownNumber]
  have hpeers : (takePeerFrame f s).peers = s.peers.set f.header.sender (entryAfter (bodyKind f.body) f.header) := by
    simp [takePeerFrame, peerHeard_peers]
  unfold isPresent
  rw [hnumber, hpeers, get_set_fin]
  split
  · next hq =>
    subst hq
    rw [bne_iff_ne.mpr hp, Bool.true_and]
    by_cases hk : bodyKind f.body = .depart <;> simp [entryAfter, hk]
  · rfl

theorem takePeerFrame_queueAgrees {f : Frame} {s : State} (hp : f.header.sender ≠ ownNumber s) (hs : QueueAgrees s) :
    QueueAgrees (takePeerFrame f s) := by
  have hflight : bodyInFlight (takePeerFrame f s).access = bodyInFlight s.access := by
    simp [takePeerFrame, rotateTo, bodyInFlight]
  have hpresent := isPresent_takePeerFrame (f := f) hp
  have hother : ∀ q, q ≠ f.header.sender → isPresent s q = true → isPresent (takePeerFrame f s) q = true := by
    intro q hq hs
    rw [hpresent, if_neg hq, hs]
  unfold QueueAgrees at hs ⊢
  rw [hflight, takePeerFrame_queue, peerHeard_queue]
  by_cases hk : bodyKind f.body = .depart
  · rw [if_pos hk]
    split
    · next hdeparted =>
      refine hs.present_mono fun q hq => hother q (fun e => ?_) hq
      subst e
      have hstate : s.peers[f.header.sender].state = .departed := hdeparted
      simp [isPresent, -Fin.getElem_fin, hstate] at hq
    · exact removeTarget_agrees hs hother
  · rw [if_neg hk]
    have hsender : isPresent (takePeerFrame f s) f.header.sender = true := by
      rw [hpresent, if_pos rfl]
      exact bne_iff_ne.mpr hk
    have hmono : ∀ q, isPresent s q = true → isPresent (takePeerFrame f s) q = true := by
      intro q hq
      by_cases e : q = f.header.sender
      · exact e ▸ hsender
      · exact hother q e hq
    split
    · refine offer_agrees (hs.present_mono hmono) ⟨fun q hq => ?_, rfl⟩
      exact Option.some.inj hq ▸ hsender
    · exact hs.present_mono hmono

theorem QueueAgrees.congr {s t : State} (hs : QueueAgrees s) (hpeers : t.peers = s.peers)
    (hnumber : ownNumber t = ownNumber s) (hqueue : t.queue = s.queue)
    (hflight : bodyInFlight t.access = bodyInFlight s.access) : QueueAgrees t := by
  unfold QueueAgrees
  rw [isPresent_congr hpeers hnumber, hqueue, hflight]
  exact hs

theorem takeFrame_queueAgrees (f : Frame) {s : State} (hs : QueueAgrees s) : QueueAgrees (takeFrame f s) := by
  have hheard : QueueAgrees (hearFrame f s) := hs
  unfold takeFrame
  (repeat' split)
  · exact hs
  · exact hs
  · have hsame : SameAttempt (hearFrame f s).access (takeOwnNumberFrame (hearFrame f s)).access :=
      (takeOwnNumberFrame_line (hearFrame f s)).2
    exact hheard.congr (by simp) (by simp [ownNumber]) (by simp) (bodyInFlight_congr hsame)
  · next hp => exact takePeerFrame_queueAgrees hp hheard

theorem beginAttempt_queueAgrees {c : Choice} {s : State} (hs : QueueAgrees s) (hnone : s.access.attempt = none)
    (hchoice : ∀ r, c = .request r → ∃ e rest, s.queue.entries = e :: rest ∧ r = e.request) :
    QueueAgrees (beginAttempt c s) := by
  have hbefore : EntriesAgree (isPresent s) none s.queue.entries := by
    simpa [QueueAgrees, bodyInFlight, hnone] using hs
  have hpresent : isPresent (beginAttempt c s) = isPresent s := isPresent_congr (by simp) (by simp [ownNumber])
  have hflight : (bodyInFlight (beginAttempt c s).access).map bodyKind = some (bodyKind (bodyFor c s)) := by
    simp [bodyInFlight, frameFor]
  unfold QueueAgrees
  rw [hpresent, hflight, beginAttempt_queue]
  split
  · next r =>
    obtain ⟨e, rest, hq, rfl⟩ := hchoice r rfl
    have hkind : bodyKind (bodyFor (.request e.request) s) = requestKind e.request := by
      cases e.request <;> rfl
    rw [hkind]
    exact markHeadInFlight_agrees hbefore hq
  · exact hbefore.of_noneInFlight hbefore.noneInFlight

theorem succeeded_queueAgrees {a : Attempt} {s : State} (hs : QueueAgrees s) (ha : s.access.attempt = some a) :
    QueueAgrees (succeeded a s) := by
  have hbefore : EntriesAgree (isPresent s) (some (bodyKind a.frame.body)) s.queue.entries := by
    simpa [QueueAgrees, bodyInFlight, ha] using hs
  unfold QueueAgrees
  rw [isPresent_congr (s := s) (by simp [succeeded]) (by simp [succeeded, ownNumber]), succeeded_queue]
  split
  · exact requestSucceeded_agrees hbefore
  · next hb => exact hbefore.of_noneInFlight (hbefore.noneInFlight_of_kind (requestKind_ne_of_not_request hb))

theorem failed_queueAgrees {a : Attempt} {s : State} (hs : QueueAgrees s) (ha : s.access.attempt = some a) :
    QueueAgrees (failed a s) := by
  have hbefore : EntriesAgree (isPresent s) (some (bodyKind a.frame.body)) s.queue.entries := by
    simpa [QueueAgrees, bodyInFlight, ha] using hs
  unfold QueueAgrees
  rw [isPresent_congr (s := s) (by simp [failed]) (by simp [failed, ownNumber]), failed_queue]
  split
  · exact requestFailed_agrees hbefore
  · next hb => exact hbefore.of_noneInFlight (hbefore.noneInFlight_of_kind (requestKind_ne_of_not_request hb))

theorem lostPresence_queueAgrees {p : StationNo} {s u : State} {e : PeerEntry} (hs : QueueAgrees s)
    (hset : u.peers = s.peers.set p e) (hnumber : ownNumber u = ownNumber s) (hqueue : u.queue = s.queue)
    (hflight : u.access = s.access) : QueueAgrees (lostPresence p u) := by
  have haccess : (lostPresence p u).access = s.access := by simpa using hflight
  unfold QueueAgrees
  rw [lostPresence_queue, hqueue, haccess]
  refine removeTarget_agrees hs fun q hq hpresent => ?_
  have hstands : isPresent (lostPresence p u) q = isPresent s q := by
    unfold isPresent
    rw [show ownNumber (lostPresence p u) = ownNumber s by simpa [ownNumber] using hnumber,
      show (lostPresence p u).peers = s.peers.set p e by simpa using hset, get_set_fin, if_neg hq]
  rw [hstands, hpresent]

theorem choice_request {s : State} {r : Request} (h : choice s = some (.request r)) :
    ∃ e rest, s.queue.entries = e :: rest ∧ r = e.request := by
  unfold choice at h
  (repeat' split at h) <;> simp_all

theorem exec_queueAgrees {c : Instr} {s t : State} (h : exec c s = .next t) (hreset : ResetHeld s)
    (hq : LoadingQuiescent s) (hline : LineCoherent s) (hs : QueueAgrees s) : QueueAgrees t := by
  have hempty : ∀ u : State, LoadingQuiescent u → u.member.own = .loading → u.queue = .reset := fun u hu hload => by
    obtain ⟨-, -, -, -, -, -, -, -, -, hqueue, -⟩ := hu hload
    exact hqueue
  have hqt := exec_loadingQuiescent h hq
  by_cases hload : s.member.own = .loading
  · rcases exec_loading_cases h hq hload with hstays | rfl
    · exact queueAgrees_of_empty (hempty t hqt hstays)
    · exact queueAgrees_of_empty (by simpa [loaded] using hempty s hq hload)
  by_cases hstation : ∃ cause, c = .stationReset cause
  · obtain ⟨cause, rfl⟩ := hstation
    obtain rfl := Host.Outcome.next.inj h
    exact queueAgrees_of_empty rfl
  by_cases hrelease : ∃ straps, c = .releaseOfReset straps
  · obtain ⟨straps, rfl⟩ := hrelease
    simp only [exec, execReleaseOfReset] at h
    split at h
    · next hin => exact absurd (by rw [hreset hin]; rfl) hload
    · obtain rfl := Host.Outcome.next.inj h
      exact hs
  have hnumber : ownNumber t = ownNumber s :=
    congrArg Straps.station (exec_straps h (fun _ e => hstation ⟨_, e⟩) (fun _ e => hrelease ⟨_, e⟩))
  cases c with
  | slotStart cls =>
    rcases exec_slotStart_cases h with rfl | ⟨l, hl, rfl | ⟨c, -, hchoice, rfl⟩⟩
    · exact hs
    · exact hs
    · have hnone : s.access.attempt = none := (((lineCoherent_iff s).mp hline).2.ladder (by simp [hl])).2
      refine beginAttempt_queueAgrees (s := slotBegun cls l s) hs hnone fun r hr => ?_
      subst hr
      exact choice_request hchoice
  | attemptSuccess =>
    rcases exec_attemptSuccess_cases h with rfl | ⟨a, ha, -, -, -, rfl⟩
    · exact hs
    · exact succeeded_queueAgrees hs ha
  | attemptFailure =>
    rcases exec_attemptFailure_cases h with rfl | ⟨a, ha, -, rfl⟩
    · exact hs
    · exact failed_queueAgrees hs ha
  | receivePresence | receiveHello | receiveAnnounce | receiveAckReq | receiveResetReq | receiveRefreshReq
  | receiveSilence | receiveDepart =>
    obtain rfl := Host.Outcome.next.inj h
    exact takeFrame_queueAgrees _ hs
  | lostTimerExpiry p =>
    simp only [exec, execLostTimerExpiry] at h
    split at h <;> obtain rfl := Host.Outcome.next.inj h
    · exact lostPresence_queueAgrees hs rfl rfl rfl rfl
    · exact hs
  | keySample levels =>
    have hpeers := (exec_peers h rfl).1
    have hflight := exec_bodyInFlight h (by simp) (by simp) (by simp) (by simp) hload
    unfold QueueAgrees
    rw [isPresent_congr hpeers hnumber, hflight]
    exact (keySample_queueStep h).agrees hs
  | stationReset cause => exact absurd ⟨cause, rfl⟩ hstation
  | endOfLoading => rw [exec_endOfLoading_not h (by simp [loading, hload])]; exact hs
  | _ =>
    exact hs.congr (exec_peers h rfl).1 hnumber (exec_queue h rfl)
      (exec_bodyInFlight h (by simp) (by simp) (by simp) (by simp) hload)

theorem tick_queueAgrees {s : State} (hs : QueueAgrees s) : QueueAgrees (tickCounters (tickLine s)) := by
  have hpresent : isPresent (tickCounters (tickLine s)) = isPresent s := by
    funext p
    simp only [isPresent, tickCounters, tickLine_frame, get_ofFn_fin, ownNumber]
  have hflight : bodyInFlight (tickCounters (tickLine s)).access = bodyInFlight s.access := by
    simp [bodyInFlight, tickCounters]
  unfold QueueAgrees at hs ⊢
  rw [hpresent, hflight]
  simpa only [tickCounters_frame, tickLine_frame] using hs

/-- Settles O54: each operation on the queue keeps its bounds; and each command keeps targets, lists and marks in agreement with
the Presence Table and the attempt. -/
theorem queueStaysBounded : Obligations.QueueStaysBounded := by
  intro s t h
  refine ⟨fun hq => ?_, ?_⟩
  · exact step_keeps (Inv := fun s => QueueBounded s.queue) (fun _ _ => id) (fun _ _ _ => exec_queueBounded)
      (fun _ _ hs => by simpa using hs) hq h
  · rintro ⟨hreset, hq, hline, hqueue⟩
    rw [queueCoherent_iff] at hqueue ⊢
    exact step_keeps (Inv := fun s => ResetHeld s ∧ LoadingQuiescent s ∧ LineCoherent s ∧ QueueAgrees s)
      (fun s q hs => ⟨resetHeld_pending s q hs.1, hs.2⟩)
      (fun _ _ _ h ⟨hreset, hq, hline, hs⟩ => ⟨exec_resetHeld h hreset, exec_loadingQuiescent h hq,
        exec_lineCoherent h hq hline, exec_queueAgrees h hreset hq hline hs⟩)
      (fun _ hin ⟨_, hq, hline, hs⟩ => ⟨tick_resetHeld hin, tick_loadingQuiescent hq, tick_lineCoherent hline,
        tick_queueAgrees hs⟩)
      ⟨hreset, hq, hline, hqueue⟩ h

end Sys2Proof.Machine
end

section
/-! PROOFS. Reset, start-up and what is fixed: the answers of every command (O1, O2), the reset values (O4, O51), the
release (O5), the read (O6, O7), the end of LOADING (O8), the fixed configuration (O60) and the events of the Access
Controller (O59). -/

namespace Sys2Proof.Machine

open Sys2Proof.Safety

/-- Two states are the same where every block is. -/
theorem state_eq_of_fields {s t : State} (startup : s.startup = t.startup) (disagree : s.disagree = t.disagree)
    (points : s.points = t.points) (list : s.list = t.list) (line : s.line = t.line) (access : s.access = t.access)
    (member : s.member = t.member) (peers : s.peers = t.peers) (mirror : s.mirror = t.mirror) (keys : s.keys = t.keys)
    (queue : s.queue = t.queue) (time : s.time = t.time) (panel : s.panel = t.panel) (pins : s.pins = t.pins)
    (pending : s.pending = t.pending) : s = t := by
  cases s
  cases t
  simp_all

/-- Settles O1: `step` reads the front of the queue. -/
theorem stepRunsFrontCommand : Obligations.StepRunsFrontCommand := fun _ _ _ => rfl

/-! ### Every command answers (O2) -/

/-- Every command answers a next state with the queue of commands as it was. -/
theorem exec_answers (c : Instr) (s : State) : ∃ t, exec c s = .next t ∧ t.pending = s.pending := by
  cases c with
  | fieldInputSample longest levels =>
    cases hl : loading s with
    | true => exact ⟨_, exec_fieldInputSample_loading longest levels s hl, rfl⟩
    | false => exact ⟨_, exec_fieldInputSample_running longest levels s hl, by simp⟩
  | keySample levels =>
    cases hl : loading s with
    | true => exact ⟨_, exec_keySample_loading levels s hl, rfl⟩
    | false => exact ⟨_, exec_keySample_running levels s hl, by simp⟩
  | receivePresence | receiveHello | receiveAnnounce | receiveAckReq | receiveResetReq | receiveRefreshReq
  | receiveSilence | receiveDepart => exact ⟨_, rfl, by simp⟩
  | stationReset => exact ⟨_, rfl, rfl⟩
  | releaseOfReset | lineBusy | lineQuiet | ladderRepeat | ladderStartAfterUnheardAttempt | ownStartMarkEnd | collision
  | presenceTimerExpiry | startOfFrame | firstHighSample | cdiSample | commonPeriodStart | toneInstant =>
    simp only [exec, execReleaseOfReset, execLineBusy, execLineQuiet, execLadderRepeat, execLadderStartAfterUnheardAttempt,
      execOwnStartMarkEnd, execCollision, execPresenceTimerExpiry, execStartOfFrame, execFirstHighSample, execCdiSample,
      execCommonPeriodStart, execToneInstant]
    (repeat' split) <;> exact ⟨_, rfl, rfl⟩
  | endOfLoading | slotStart | attemptSuccess | attemptFailure | jamEvent | listenWindowEnd | lostTimerExpiry
  | supplyWarningEvent | supplyRecoveryEvent | damagedFrame | receiveOwnNumberFrame | spike | unframedCarrier =>
    simp only [exec, execEndOfLoading, execSlotStart, execAttemptSuccess, execAttemptFailure, execJamEvent,
      execListenWindowEnd, execLostTimerExpiry, execSupplyWarningEvent, execSupplyRecoveryEvent, execDamagedFrame,
      execReceiveOwnNumberFrame, execSpike, execUnframedCarrier]
    (repeat' split) <;> exact ⟨_, rfl, by simp⟩

/-- Settles O2: no command refuses or faults, and no operation writes the queue of commands. -/
theorem everyCommandAnswersNext : Obligations.EveryCommandAnswersNext := exec_answers

/-! ### Reset and start-up -/

/-- Settles O51: every clause speaks of a constant state. -/
theorem resetMeetsEveryInvariant : Obligations.ResetMeetsEveryInvariant := by
  have hq : LoadingQuiescent State.reset := loadingQuiescent_inReset _ _ _
  have hload : State.reset.member.own = .loading := rfl
  obtain ⟨-, hline, hmember, hreturn, hpermitted⟩ := carrierAgrees_of_loading hq hload
  obtain ⟨hpoints, hlist⟩ := ownCoherent_of_loading hq hload
  obtain ⟨hpeers, hsolo, hrows⟩ := tableAgrees_of_loading hq hload
  exact
    { line := hline, membership := hmember, returnToListen := hreturn, attemptPermitted := hpermitted
      points := hpoints, list := hlist, peers := hpeers, solo := hsolo, rows := hrows, loading := hq
      snapshots := (noSnapshots_of_loading hq hload).inFlight
      queue := (queueCoherent_iff _).mpr (queueAgrees_of_empty rfl)
      firstOut := (firstOutCoherent_iff _).mpr (firstOutHolds_of_empty rfl)
      elapsed := by decide, attemptValid := by decide, faultCounted := by decide, presenceTimer := by decide
      timers := by decide, queueBounded := by decide, ownHorn := by decide
      resetHeld := fun _ => rfl, image := by decide, check := by decide }

/-- No row sounds in reset: all are QUIET or VACANT, with no horn flag (R158). -/
theorem sounding_inReset (g : ResetGate) (p : InputPins) (q : List Instr) : sounding (State.inReset g p q) = false := by
  have hrow : ∀ o i, (rowOf (State.inReset g p q) o i).horn = false := by
    intro o i
    unfold rowOf
    split
    · simp [MirrorTable.reset, OwnPoint.fresh, Config.defaultPoint]
    · simp [MirrorTable.reset, MirrorRow.vacant]
  have hraise : unpublishedRaise (.fresh Config.defaultPoint) = false := rfl
  simp [sounding, hornDemand, anyRow, hrow, hraise, KeyScanner.reset]

/-- Settles O4: the reset values, cell by cell. -/
theorem stationResetGivesResetValues : Obligations.StationResetGivesResetValues := by
  intro c s
  have hin : inReset (State.inReset (withCause c s.startup.causes) s.pins s.pending) = true := by
    cases c <;> simp [inReset, withCause, StartUp.reset]
  have hcauses : ((withCause c s.startup.causes).powerOn = true ↔ s.startup.causes.powerOn = true ∨ c = .powerOn) ∧
      ((withCause c s.startup.causes).resetPin = true ↔ s.startup.causes.resetPin = true ∨ c = .resetPin) ∧
      ((withCause c s.startup.causes).supply = true ↔ s.startup.causes.supply = true ∨ c = .supply) := by
    cases c <;> simp [withCause]
  obtain ⟨hpower, hpin, hsupply⟩ := hcauses
  have hrecords : ∀ i : Fin 16, (Vector.replicate 16 (OwnPoint.fresh Config.defaultPoint))[i] =
      { enabled := true, polarity := .abnormalWhenOpen, mode := .locking, cls := .b, group := .g0, condition := .normal,
        state := .quiet, version := 0, published := none, snapshot := none } := fun i => by simp; rfl
  refine ⟨_, rfl, hin, hpower, hpin, hsupply, rfl, rfl, rfl, rfl, rfl, rfl, fun i => ⟨by simp, hrecords i⟩, rfl, rfl, rfl,
    rfl, rfl, fun p => by simp; rfl, fun p i => by simp [MirrorTable.reset]; rfl, fun i => by simp [MirrorTable.reset], rfl,
    rfl, rfl, rfl, rfl, rfl, fun k => by simp [PanelDriver.reset], rfl, rfl, rfl, rfl, sounding_inReset _ _ _, rfl, rfl⟩

/-- Settles O6: one bit of the image, written out. -/
theorem cdiSampleTakesOneBit : Obligations.CdiSampleTakesOneBit := by
  intro level s hload hreset hcfgen hroom
  have hreading : readingImage s = true := by simp [readingImage, loading, hload, hreset, hcfgen]
  refine ⟨_, if_pos ⟨hreading, hroom⟩, rfl, rfl, fun h => if_pos h, fun h => if_neg (Nat.not_lt.mpr h), rfl⟩

/-- Settles O5: the release reads the straps and starts the read and the glass, and reset left the rest at its values. -/
theorem releaseLatchesStraps : Obligations.ReleaseLatchesStraps := by
  intro pins s hheld hin
  have hs := hheld hin
  have hexec : exec (.releaseOfReset pins) s = .next
      { s with
        startup := { s.startup with causes := noCauses, straps := readStraps pins, ccs := !pins.cfgen }
        panel := { s.panel with lcdFrame := 0, common := some 0, cells := Vector.replicate 35 false } } := if_pos hin
  have hpanel : s.panel = .reset := by rw [hs]; rfl
  have hload : s.member.own = .loading := by rw [hs]; rfl
  obtain ⟨hcck, himage, hcheck, hcount, hwheel⟩ : s.startup.cck = false ∧ s.startup.image = [] ∧
      s.startup.check = 0xFFFF ∧ s.time.tickCount = 0 ∧ s.time.wheel = 0 := by
    rw [hs]
    exact ⟨rfl, rfl, rfl, rfl, rfl⟩
  have hstation : (readStraps pins).station.val =
      8 * pins.sn3.toNat + 4 * pins.sn2.toNat + 2 * pins.sn1.toNat + pins.sn0.toNat := by
    cases pins with
    | mk sn3 sn2 sn1 sn0 lr1 lr0 cfgen => cases sn3 <;> cases sn2 <;> cases sn1 <;> cases sn0 <;> rfl
  have hrate : (readStraps pins).lineRate.val = 2 * pins.lr1.toNat + pins.lr0.toNat ∧
      lineClock (readStraps pins).lineRate = 16 * (4800 * 2 ^ (2 * pins.lr1.toNat + pins.lr0.toNat)) := by
    cases pins with
    | mk sn3 sn2 sn1 sn0 lr1 lr0 cfgen => cases lr1 <;> cases lr0 <;> exact ⟨rfl, rfl⟩
  refine ⟨_, hexec, rfl, hstation, hrate.1, rfl, rfl, hrate.2, by simp [loading, hload], ?_, rfl, hcck, himage, hcheck,
    hcount, hwheel, rfl, rfl, fun k => by simp, ?_⟩
  · simp [readingImage, loading, hload, inReset, noCauses, readStraps]
  · rw [hpanel]
    rfl

/-! ### The end of LOADING (O8) -/

/-- Settles O8: in LOADING every record has its reset values and the list is empty, so that the configuration is all that the
records take and the entry to LISTEN publishes nothing. -/
theorem endOfLoadingStartsTheStation : Obligations.EndOfLoadingStartsTheStation := by
  intro s c hq hload hreset hread hc
  obtain ⟨-, hpoints, hlist, hline, haccess, hmember, -⟩ := hq hload
  have hready : (loading s && !inReset s && readOver s.startup) = true := by
    cases hcfgen : s.startup.straps.cfgen <;> simp_all [loading, readOver]
  have hsettings : settingsFor s.startup = c := by
    rw [hc, settingsFor]
    simp only [Bool.and_eq_true]
  have hrecords : ∀ i : Fin 16, (loaded s).points[i] = .fresh c.points[i] := by
    intro i
    rw [(loaded_of_nil hlist).1, get_ofFn_fin, hpoints, hsettings]
    simp [configure_fresh]
  have hown : (loaded s).member =
      { own := if s.startup.supplyWarning = true then .warning else .listen
        listenTimer := { running := !s.startup.supplyWarning, ticks := 0 }
        helloQueued := false, departPending := s.startup.supplyWarning, departFailures := 0
        heldRecovery := false
        returnState := if s.startup.supplyWarning = true then some .listen else none } := by
    rw [loaded, enterListen_member]
    cases hwarn : s.startup.supplyWarning <;> simp [hmember, MembershipController.reset, Timer.started, Timer.stopped]
  have hfault : (loaded s).startup.configFault = true ↔
      s.startup.straps.cfgen = true ∧ imageAccepted s.startup.image s.startup.check = false := by
    simp [loaded, imageRefused]
  refine ⟨_, exec_endOfLoading_taken hready, hfault, by simp [loaded, hsettings], by simp [loaded, hsettings], hrecords,
    by simp [loaded, LineInterface.start], hown, ?_⟩
  apply state_eq_of_fields
  case mirror => exact (loaded_of_nil hlist).2
  all_goals simp [loaded, hsettings, haccess, AccessController.reset]

/-! ### The check register (O7) -/

/-- One more bit of the image goes through the check register while it is one of the first 144 (R162). -/
theorem checkOf_snoc {image : List Bool} {check : BitVec 16} (level : Bool) (h : check = checkOf (image.take 144)) :
    (if image.length < 144 then checkStep check level else check) = checkOf ((image ++ [level]).take 144) := by
  split
  · next hlt =>
    rw [List.take_of_length_le (by simp; omega), checkOf, List.foldl_append, ← checkOf, h,
      List.take_of_length_le (Nat.le_of_lt hlt)]
    rfl
  · next hge => rw [List.take_append_of_le_length (Nat.not_lt.mp hge)]; exact h

theorem checkFormed_congr {s t : State} (hs : CheckFormed s) (hown : t.member.own = .loading → s.member.own = .loading)
    (himage : t.startup.image = s.startup.image) (hcheck : t.startup.check = s.startup.check) : CheckFormed t := by
  intro ht
  rw [himage, hcheck]
  exact hs (hown ht)

theorem exec_checkFormed {c : Instr} {s t : State} (h : exec c s = .next t) (hs : CheckFormed s) : CheckFormed t := by
  by_cases hreset : ∃ cause, c = .stationReset cause
  · obtain ⟨cause, rfl⟩ := hreset
    obtain rfl := Host.Outcome.next.inj h
    exact fun _ => rfl
  have hown : t.member.own = .loading → s.member.own = .loading :=
    not_imp_not.mp (exec_ne_loading h fun cause e => hreset ⟨cause, e⟩)
  by_cases hstart : touchesStartup c = false
  · exact checkFormed_congr hs hown (by rw [exec_startup h hstart]) (by rw [exec_startup h hstart])
  cases c with
  | stationReset cause => exact absurd ⟨cause, rfl⟩ hreset
  | cdiSample level =>
    simp only [exec, execCdiSample] at h
    split at h <;> obtain rfl := Host.Outcome.next.inj h
    · exact fun hload => checkOf_snoc level (hs hload)
    · exact hs
  | endOfLoading =>
    simp only [exec, execEndOfLoading] at h
    split at h <;> obtain rfl := Host.Outcome.next.inj h
    · exact fun hload => absurd hload (enterListen_ne_loading _)
    · exact hs
  | releaseOfReset | supplyWarningEvent | supplyRecoveryEvent =>
    simp only [exec, execReleaseOfReset, execSupplyWarningEvent, execSupplyRecoveryEvent] at h
    split at h <;> obtain rfl := Host.Outcome.next.inj h <;> exact checkFormed_congr hs hown (by simp) (by simp)
  | _ => exact absurd rfl hstart

/-- Settles O7: CDI_SAMPLE takes bit and check on together, and no other command of LOADING writes either. -/
theorem checkRegisterFollowsTheImage : Obligations.CheckRegisterFollowsTheImage := fun _ _ hs h =>
  step_keeps (Inv := CheckFormed) (fun _ _ => id) (fun _ _ _ => exec_checkFormed)
    (fun _ _ hs => checkFormed_congr hs (by simp [tickCounters]) (by simp [tickCounters]) (by simp [tickCounters])) hs h

/-! ### The configuration (O60) -/

/-- The five configuration fields of every record stand (R9). -/
def SettingsStand (s t : State) : Prop :=
  ∀ i : Fin 16, t.points[i].enabled = s.points[i].enabled ∧ t.points[i].polarity = s.points[i].polarity ∧
    t.points[i].mode = s.points[i].mode ∧ t.points[i].cls = s.points[i].cls ∧ t.points[i].group = s.points[i].group

theorem SettingsStand.of_points {s t : State} (h : t.points = s.points) : SettingsStand s t := by
  intro i
  rw [h]
  exact ⟨rfl, rfl, rfl, rfl, rfl⟩

theorem stateChange_settingsStand (i : PointIndex) (new : PointState) (s : State) : SettingsStand s (stateChange i new s) := by
  intro j
  rw [stateChange_points]
  split <;> exact ⟨rfl, rfl, rfl, rfl, rfl⟩

theorem versionedClaim_settingsStand (moveOf : PointMode → PointState → Option PointState) (i : PointIndex) (v : Version)
    (s : State) : SettingsStand s (versionedClaim moveOf i v s) := by
  rcases versionedClaim_cases moveOf i v s with h | ⟨new, -, -, -, h⟩ <;> rw [h]
  · exact .of_points rfl
  · exact stateChange_settingsStand i new s

theorem sampledRecord_settings (longest : DebounceClass) (levels : Mask) (s : State) (i : PointIndex) :
    (sampledRecord longest levels s i).enabled = s.points[i].enabled ∧
    (sampledRecord longest levels s i).polarity = s.points[i].polarity ∧
    (sampledRecord longest levels s i).mode = s.points[i].mode ∧ (sampledRecord longest levels s i).cls = s.points[i].cls ∧
    (sampledRecord longest levels s i).group = s.points[i].group := by
  unfold sampledRecord
  cases moveAt longest levels s i <;> dsimp only [moved] <;> split <;> exact ⟨rfl, rfl, rfl, rfl, rfl⟩

theorem OwnStep.settingsStand {s t : State} (h : OwnStep s t) : SettingsStand s t := by
  cases h with
  | stands points list mirror disagree number => exact .of_points points
  | catchUp _ i listed =>
    intro j
    rw [catchUpPoint_points]
    split <;> exact ⟨rfl, rfl, rfl, rfl, rfl⟩
  | acknowledge _ i v => exact versionedClaim_settingsStand _ i v s
  | resetClaim _ i v => exact versionedClaim_settingsStand _ i v s
  | sample longest levels _ i =>
    intro j
    rw [samplePoint_points]
    split
    · exact sampledRecord_settings longest levels s j
    · exact ⟨rfl, rfl, rfl, rfl, rfl⟩
  | refresh => exact .of_points (by simp)
  | settle _ i =>
    intro j
    rw [settlePoint_points]
    split <;> exact ⟨rfl, rfl, rfl, rfl, rfl⟩
  | discard =>
    intro j
    simp only [discardSnapshots, get_ofFn_fin, and_self]
  | silence => exact .of_points (by simp)
  | entry | vacateMasked | vacateAll | markStale | clearStale => exact .of_points rfl

theorem OwnRun.settingsStand {s t : State} (h : OwnRun s t) : SettingsStand s t := by
  induction h with
  | refl => exact .of_points rfl
  | tail _ hlast ih =>
    intro i
    obtain ⟨h1, h2, h3, h4, h5⟩ := hlast.settingsStand i
    obtain ⟨k1, k2, k3, k4, k5⟩ := ih i
    exact ⟨h1.trans k1, h2.trans k2, h3.trans k3, h4.trans k4, h5.trans k5⟩

theorem beginAttempt_settingsStand (c : Choice) (s : State) : SettingsStand s (beginAttempt c s) := by
  intro i
  rw [beginAttempt_points]
  split
  · simp only [takeSnapshots, get_ofFn_fin]
    split <;> exact ⟨rfl, rfl, rfl, rfl, rfl⟩
  · exact ⟨rfl, rfl, rfl, rfl, rfl⟩

/-- A station reset and END_OF_LOADING apart, no command writes a configuration field (R9). -/
theorem exec_settingsStand {c : Instr} {s t : State} (h : exec c s = .next t) (hc : ∀ cause, c ≠ .stationReset cause)
    (he : c ≠ .endOfLoading) : SettingsStand s t := by
  by_cases hrelease : ∃ straps, c = .releaseOfReset straps
  · obtain ⟨straps, rfl⟩ := hrelease
    simp only [exec, execReleaseOfReset] at h
    split at h <;> obtain rfl := Host.Outcome.next.inj h <;> exact .of_points rfl
  by_cases hslot : ∃ cls, c = .slotStart cls
  · obtain ⟨cls, rfl⟩ := hslot
    rcases exec_slotStart_cases h with rfl | ⟨l, -, rfl | ⟨c, -, -, rfl⟩⟩
    · exact .of_points rfl
    · exact .of_points rfl
    · exact beginAttempt_settingsStand c (slotBegun cls l s)
  exact (exec_ownRun h hc (fun _ e => hrelease ⟨_, e⟩) (fun _ e => hslot ⟨_, e⟩) fun e => absurd e he).settingsStand

/-- A station reset and END_OF_LOADING apart, no command writes P and CONFIG FAULT (R75, R164). -/
theorem exec_period {c : Instr} {s t : State} (h : exec c s = .next t) (hc : ∀ cause, c ≠ .stationReset cause)
    (he : c ≠ .endOfLoading) :
    t.startup.period = s.startup.period ∧ t.startup.configFault = s.startup.configFault := by
  by_cases hstart : touchesStartup c = false
  · rw [exec_startup h hstart]
    exact ⟨rfl, rfl⟩
  cases c with
  | stationReset cause => exact absurd rfl (hc cause)
  | endOfLoading => exact absurd rfl he
  | releaseOfReset | cdiSample | supplyWarningEvent | supplyRecoveryEvent =>
    simp only [exec, execReleaseOfReset, execCdiSample, execSupplyWarningEvent, execSupplyRecoveryEvent] at h
    split at h <;> obtain rfl := Host.Outcome.next.inj h <;> simp
  | _ => exact absurd rfl hstart

theorem takeFrame_tone (f : Frame) (s : State) : (takeFrame f s).panel.tone = s.panel.tone := by
  unfold takeFrame
  (repeat' split) <;> simp [takePeerFrame]

/-- A station reset and END_OF_LOADING apart, no command writes the tone in use (R154). -/
theorem exec_tone {c : Instr} {s t : State} (h : exec c s = .next t) (hc : ∀ cause, c ≠ .stationReset cause)
    (he : c ≠ .endOfLoading) : t.panel.tone = s.panel.tone := by
  cases c with
  | stationReset cause => exact absurd rfl (hc cause)
  | endOfLoading => exact absurd rfl he
  | fieldInputSample =>
    obtain ⟨-, -, -, -, -, -, -, -, hpanel, -⟩ := exec_fieldInputSample_frame h
    rw [hpanel]
  | keySample =>
    obtain ⟨-, -, -, -, -, -, -, hpanel, -⟩ := exec_keySample_frame h
    rw [hpanel]
  | receivePresence | receiveHello | receiveAnnounce | receiveAckReq | receiveResetReq | receiveRefreshReq
  | receiveSilence | receiveDepart =>
    obtain rfl := Host.Outcome.next.inj h
    exact takeFrame_tone _ s
  | slotStart | attemptSuccess | attemptFailure | jamEvent | listenWindowEnd | lostTimerExpiry
  | supplyWarningEvent | supplyRecoveryEvent | damagedFrame | receiveOwnNumberFrame | spike | unframedCarrier =>
    simp only [exec, execSlotStart, execAttemptSuccess, execAttemptFailure, execJamEvent,
      execListenWindowEnd, execLostTimerExpiry, execSupplyWarningEvent, execSupplyRecoveryEvent, execDamagedFrame,
      execReceiveOwnNumberFrame, execSpike, execUnframedCarrier] at h
    (repeat' split at h) <;> obtain rfl := Host.Outcome.next.inj h <;> simp
  | releaseOfReset | lineBusy | lineQuiet | ladderRepeat | ladderStartAfterUnheardAttempt | ownStartMarkEnd | collision
  | presenceTimerExpiry | startOfFrame | firstHighSample | cdiSample | commonPeriodStart | toneInstant =>
    simp only [exec, execReleaseOfReset, execLineBusy, execLineQuiet, execLadderRepeat, execLadderStartAfterUnheardAttempt,
      execOwnStartMarkEnd, execCollision, execPresenceTimerExpiry, execStartOfFrame, execFirstHighSample, execCdiSample,
      execCommonPeriodStart, execToneInstant] at h
    (repeat' split at h) <;> obtain rfl := Host.Outcome.next.inj h <;> rfl

/-- Settles O60: no operation on the own points writes a configuration field, and no other command P, the tone or the straps. -/
theorem configurationIsFixed : Obligations.ConfigurationIsFixed := by
  intro c s t h hc
  refine ⟨fun he => ?_, exec_straps h hc⟩
  obtain ⟨hperiod, hfault⟩ := exec_period h hc he
  exact ⟨exec_settingsStand h hc he, hperiod, exec_tone h hc he, hfault⟩

/-! ### Sequence, rotation and LINE FAULT (O59) -/

/-- The sequence counter, the rotation and LINE FAULT stand. -/
def AccessStands (a b : AccessController) : Prop :=
  b.sequence = a.sequence ∧ b.rotation = a.rotation ∧ b.lineFault = a.lineFault

theorem leaveWarning_accessStands (s : State) : AccessStands s.access (leaveWarning s).access := by
  rw [leaveWarning_access]
  split <;> exact ⟨rfl, rfl, rfl⟩

theorem supplyRecovered_accessStands (s : State) : AccessStands s.access (supplyRecovered s).access := by
  rw [supplyRecovered_access]
  (repeat' split)
  · exact ⟨rfl, rfl, rfl⟩
  · exact leaveWarning_accessStands s
  · rw [enterListen_access]; exact ⟨rfl, rfl, rfl⟩
  · exact ⟨rfl, rfl, rfl⟩

theorem departFailed_accessStands (s : State) : AccessStands s.access (departFailed s).access := by
  simp only [departFailed]
  (repeat' split)
  · exact leaveWarning_accessStands s
  · exact ⟨rfl, rfl, rfl⟩
  · exact ⟨rfl, rfl, rfl⟩

theorem reportSuccess_accessStands (b : Body) (s : State) : AccessStands s.access (reportSuccess b s).access := by
  cases b <;> simp [reportSuccess, AccessStands]

theorem reportFailure_accessStands (b : Body) (s : State) : AccessStands s.access (reportFailure b s).access := by
  cases b with
  | depart => exact departFailed_accessStands s
  | _ => simp [reportFailure, AccessStands]

/-- The three after a success (R52, R57, R59). -/
theorem succeeded_access_values (a : Attempt) (s : State) :
    (succeeded a s).access.sequence = s.access.sequence + 1 ∧ (succeeded a s).access.lineFault = false := by
  obtain ⟨hsequence, -, hfault⟩ := reportSuccess_accessStands a.frame.body (successSteps a.frame s)
  simp only [succeeded, noteHorn_frame, catchUpAfter_frame, refreshIf_frame, hsequence, hfault]
  exact ⟨rfl, rfl⟩

/-- The three after a failure (R53, R58). -/
theorem failed_access_values (a : Attempt) (s : State) :
    (failed a s).access.sequence = s.access.sequence ∧
      (failed a s).access.lineFault = (s.access.lineFault || s.access.failedCount == 15) := by
  obtain ⟨hsequence, -, hfault⟩ := reportFailure_accessStands a.frame.body (failureSteps a s)
  simp only [failed, noteHorn_frame, catchUpFailed_frame, hsequence, hfault]
  exact ⟨by simp [failureSteps], by simp [failureSteps]⟩

/-- The rotation of a damaged frame, a frame of a peer or one with the own number may be another; then the frame has ended
(R29). -/
def RotationEnds (s t : State) : Prop :=
  t.access.sequence = s.access.sequence ∧ t.access.lineFault = s.access.lineFault ∧
    (t.access.rotation ≠ s.access.rotation → s.line.receiver = .frame ∧ t.line.receiver = .wait)

theorem RotationEnds.of_stands {s t : State} (h : AccessStands s.access t.access) : RotationEnds s t :=
  ⟨h.1, h.2.2, fun hne => absurd h.2.1 hne⟩

theorem enterDuplicate_accessStands (s : State) : AccessStands s.access (enterDuplicate s).access := by
  rw [enterDuplicate_access]
  split <;> exact ⟨rfl, rfl, rfl⟩

theorem takeOwnNumberFrame_rotationEnds {s : State} (h : s.line.receiver = .frame) :
    RotationEnds s (takeOwnNumberFrame s) := by
  obtain ⟨hsequence, -, hfault⟩ := enterDuplicate_accessStands (rotateTo (ownNumber s) s)
  exact ⟨hsequence, hfault, fun _ => ⟨h, by rw [(takeOwnNumberFrame_line s).1]⟩⟩

theorem takeFrame_rotationEnds (f : Frame) (s : State) : RotationEnds s (takeFrame f s) := by
  by_cases hr : s.line.receiver = .frame
  · have hwait : (takeFrame f s).line.receiver = .wait := by rw [(takeFrame_line hr).1]
    have hvalues : (takeFrame f s).access.sequence = s.access.sequence ∧
        (takeFrame f s).access.lineFault = s.access.lineFault := by
      rw [takeFrame, if_neg (not_not_intro hr)]
      split
      · exact ⟨rfl, rfl⟩
      · split
        · obtain ⟨hsequence, hfault, -⟩ := takeOwnNumberFrame_rotationEnds (s := hearFrame f s)
            (by simpa [hearFrame] using hr)
          exact ⟨hsequence, hfault⟩
        · simp [takePeerFrame, rotateTo]
    exact ⟨hvalues.1, hvalues.2, fun _ => ⟨hr, hwait⟩⟩
  · rw [takeFrame_of_not_frame f hr]
    exact .of_stands ⟨rfl, rfl, rfl⟩

/-- The ends of attempts, JAM_EVENT and a station reset apart, a command writes neither the sequence nor LINE FAULT, and the
rotation at the end of a frame only (Table 31). -/
theorem exec_rotationEnds {c : Instr} {s t : State} (h : exec c s = .next t) (hc : ∀ cause, c ≠ .stationReset cause)
    (hsuccess : c ≠ .attemptSuccess) (hfailure : c ≠ .attemptFailure) (hjam : c ≠ .jamEvent) : RotationEnds s t := by
  cases c with
  | stationReset cause => exact absurd rfl (hc cause)
  | attemptSuccess => exact absurd rfl hsuccess
  | attemptFailure => exact absurd rfl hfailure
  | jamEvent => exact absurd rfl hjam
  | receivePresence | receiveHello | receiveAnnounce | receiveAckReq | receiveResetReq | receiveRefreshReq
  | receiveSilence | receiveDepart =>
    obtain rfl := Host.Outcome.next.inj h
    exact takeFrame_rotationEnds _ s
  | receiveOwnNumberFrame =>
    simp only [exec, execReceiveOwnNumberFrame] at h
    split at h <;> obtain rfl := Host.Outcome.next.inj h
    · next hr =>
      obtain ⟨hsequence, hfault, hends⟩ := takeOwnNumberFrame_rotationEnds
        (s := hearFrame (ownNumberFrame s) (passOwnNumberFrame s)) (by simpa [hearFrame] using hr)
      simp only [hearFrame_frame, passOwnNumberFrame_frame] at hsequence hfault hends
      exact ⟨hsequence, hfault, fun hne => ⟨hr, (hends hne).2⟩⟩
    · exact .of_stands ⟨rfl, rfl, rfl⟩
  | damagedFrame =>
    simp only [exec, execDamagedFrame] at h
    split at h <;> obtain rfl := Host.Outcome.next.inj h
    · next hr =>
      generalize halvesOfFrame s.pins = heard
      exact ⟨by simp [frameDamaged], by simp [frameDamaged], fun _ => ⟨hr, by simp [frameDamaged, toReceiver]⟩⟩
    · exact .of_stands ⟨rfl, rfl, rfl⟩
  | fieldInputSample => exact .of_stands (by rw [(exec_fieldInputSample_frame h).2.2.1]; exact ⟨rfl, rfl, rfl⟩)
  | keySample => exact .of_stands (by rw [(exec_keySample_frame h).2.2.2.1]; exact ⟨rfl, rfl, rfl⟩)
  | slotStart cls =>
    rcases exec_slotStart_cases h with rfl | ⟨l, -, rfl | ⟨c, -, -, rfl⟩⟩
    · exact .of_stands ⟨rfl, rfl, rfl⟩
    · exact .of_stands ⟨rfl, rfl, rfl⟩
    · exact .of_stands (by rw [beginAttempt_access]; exact ⟨rfl, rfl, rfl⟩)
  | supplyRecoveryEvent =>
    simp only [exec, execSupplyRecoveryEvent] at h
    split at h <;> obtain rfl := Host.Outcome.next.inj h
    · exact .of_stands (supplyRecovered_accessStands { s with startup := { s.startup with supplyWarning := false } })
    · exact .of_stands ⟨rfl, rfl, rfl⟩
  | endOfLoading | listenWindowEnd | lostTimerExpiry | supplyWarningEvent | spike | unframedCarrier =>
    simp only [exec, execEndOfLoading, execListenWindowEnd, execLostTimerExpiry, execSupplyWarningEvent, execSpike,
      execUnframedCarrier] at h
    split at h <;> obtain rfl := Host.Outcome.next.inj h <;> exact .of_stands (by simp [AccessStands])
  | releaseOfReset | lineBusy | lineQuiet | ladderRepeat | ladderStartAfterUnheardAttempt | ownStartMarkEnd | collision
  | presenceTimerExpiry | startOfFrame | firstHighSample | cdiSample | commonPeriodStart | toneInstant =>
    simp only [exec, execReleaseOfReset, execLineBusy, execLineQuiet, execLadderRepeat, execLadderStartAfterUnheardAttempt,
      execOwnStartMarkEnd, execCollision, execPresenceTimerExpiry, execStartOfFrame, execFirstHighSample, execCdiSample,
      execCommonPeriodStart, execToneInstant] at h
    (repeat' split at h) <;> obtain rfl := Host.Outcome.next.inj h <;> exact .of_stands ⟨rfl, rfl, rfl⟩

/-- Settles O59: the ends of attempts and JAM_EVENT write what their rules say, and every other command at most the rotation, at
the end of a frame. -/
theorem accessChangesOnlyAtItsEvents : Obligations.AccessChangesOnlyAtItsEvents := by
  intro c s t h
  refine ⟨fun hc => ?_, ?_⟩
  · by_cases hsuccess : c = .attemptSuccess
    · subst hsuccess
      rcases exec_attemptSuccess_cases h with rfl | ⟨a, -, -, -, -, rfl⟩
      · simp
      · obtain ⟨hsequence, hfault⟩ := succeeded_access_values a s
        simp [hsequence, hfault]
    by_cases hfailure : c = .attemptFailure
    · subst hfailure
      rcases exec_attemptFailure_cases h with rfl | ⟨a, -, -, rfl⟩
      · simp +contextual
      · obtain ⟨hsequence, hfault⟩ := failed_access_values a s
        simp +contextual [hsequence, hfault]
    by_cases hjam : c = .jamEvent
    · subst hjam
      simp only [exec, execJamEvent] at h
      split at h <;> obtain rfl := Host.Outcome.next.inj h <;> simp
    obtain ⟨hsequence, hfault, hrotation⟩ := exec_rotationEnds h hc hsuccess hfailure hjam
    refine ⟨fun hne => absurd hsequence hne, fun hne => .inl (hrotation hne), fun h1 h2 => ?_, fun h1 h2 => ?_⟩
    · exact absurd (h1.symm.trans (hfault.symm.trans h2)) Bool.false_ne_true
    · exact absurd (h2.symm.trans (hfault.trans h1)) Bool.false_ne_true
  · rintro ⟨cause, rfl⟩
    obtain rfl := Host.Outcome.next.inj h
    exact ⟨rfl, rfl, rfl⟩

end Sys2Proof.Machine
end

section
/-! PROOFS. One pass of moves over different points, and the sample of the field inputs (O10). -/

namespace Sys2Proof.Machine

open Sys2Proof.Safety

/-! ### A pass of moves over different points

FIELD_INPUT_SAMPLE, the claims of a key and those of a received request are each one pass over own points in ascending index, in
which a point's move depends on its own record only. -/

/-- `op` makes at each point the move `move` of the record `record`, and reaches no other point. -/
structure MovesEach (op : State → PointIndex → State) (move : State → PointIndex → Option PointState)
    (record : State → PointIndex → OwnPoint) : Prop where
  mode : ∀ s i, localMode (op s i) = localMode s
  number : ∀ s i, ownNumber (op s i) = ownNumber s
  moveOther : ∀ s i j, j ≠ i → move (op s i) j = move s j
  recordOther : ∀ s i j, j ≠ i → record (op s i) j = record s j
  points : ∀ (s : State) (i j : PointIndex), (op s i).points[j] =
    if j = i then moved (localMode s) (move s j) (record s j) else s.points[j]
  ownHorn : ∀ (s : State) (i j : PointIndex), (op s i).mirror.ownHorn[j] =
    if j = i then hornMoved (localMode s) (move s j) s.points[j] s.mirror.ownHorn[j] else s.mirror.ownHorn[j]
  register : ∀ s i g, (op s i).mirror.firstOut.get g =
    registerMoved (localMode s) { owner := ownNumber s, index := i } (move s i) s.points[i] g (s.mirror.firstOut.get g)
  list : ∀ s i, (op s i).list = if (move s i).isSome then append i s.list else s.list

section Pass

variable {op : State → PointIndex → State} {move : State → PointIndex → Option PointState}
  {record : State → PointIndex → OwnPoint} (h : MovesEach op move record)

include h

theorem MovesEach.foldl_points {l : List PointIndex} (hl : l.Nodup) (s : State) (j : PointIndex) :
    (l.foldl op s).points[j] = if j ∈ l then moved (localMode s) (move s j) (record s j) else s.points[j] := by
  induction l generalizing s with
  | nil => simp
  | cons i l ih =>
    obtain ⟨hi, hl⟩ := List.nodup_cons.mp hl
    rw [List.foldl_cons, ih hl, h.points, h.mode]
    by_cases e : j = i
    · subst e
      rw [if_neg hi, if_pos rfl, if_pos List.mem_cons_self]
    · rw [if_neg e, h.moveOther s i j e, h.recordOther s i j e]
      simp only [List.mem_cons, e, false_or]

theorem MovesEach.foldl_ownHorn {l : List PointIndex} (hl : l.Nodup) (s : State) (j : PointIndex) :
    (l.foldl op s).mirror.ownHorn[j] =
      if j ∈ l then hornMoved (localMode s) (move s j) s.points[j] s.mirror.ownHorn[j] else s.mirror.ownHorn[j] := by
  induction l generalizing s with
  | nil => simp
  | cons i l ih =>
    obtain ⟨hi, hl⟩ := List.nodup_cons.mp hl
    rw [List.foldl_cons, ih hl, h.ownHorn, h.mode]
    by_cases e : j = i
    · subst e
      rw [if_neg hi, if_pos rfl, if_pos List.mem_cons_self]
    · rw [if_neg e, h.moveOther s i j e, h.points, if_neg e]
      simp only [List.mem_cons, e, false_or]

theorem MovesEach.foldl_register {l : List PointIndex} (hl : l.Nodup) (s : State) (g : FirstOutGroup) :
    (l.foldl op s).mirror.firstOut.get g =
      l.foldl (fun held i =>
        registerMoved (localMode s) { owner := ownNumber s, index := i } (move s i) s.points[i] g held)
        (s.mirror.firstOut.get g) := by
  induction l generalizing s with
  | nil => rfl
  | cons i l ih =>
    obtain ⟨hi, hl⟩ := List.nodup_cons.mp hl
    rw [List.foldl_cons, List.foldl_cons, ih hl, h.register, h.mode, h.number]
    refine List.foldl_ext _ _ _ fun held j hj => ?_
    have e : j ≠ i := fun e => hi (e ▸ hj)
    rw [h.moveOther s i j e, h.points, if_neg e]

theorem MovesEach.foldl_list {l : List PointIndex} (hl : l.Nodup) (s : State) :
    (l.foldl op s).list = s.list ++ l.filter fun i => (move s i).isSome && !s.list.contains i := by
  induction l generalizing s with
  | nil => simp
  | cons i l ih =>
    obtain ⟨hi, hl⟩ := List.nodup_cons.mp hl
    have hrest : l.filter (fun j => (move (op s i) j).isSome && !(op s i).list.contains j) =
        l.filter fun j => (move s j).isSome && !s.list.contains j := by
      refine List.filter_congr fun j hj => ?_
      have e : j ≠ i := fun e => hi (e ▸ hj)
      have hmem : (op s i).list.contains j = s.list.contains j := by
        rw [h.list]
        split
        · simp [mem_append, e]
        · rfl
      rw [h.moveOther s i j e, hmem]
    rw [List.foldl_cons, ih hl, hrest, h.list, List.filter_cons]
    by_cases hsome : (move s i).isSome = true
    · by_cases hin : i ∈ s.list
      · simp [hsome, append, hin]
      · simp [hsome, append, hin]
    · simp [hsome]

end Pass

/-! ### The field inputs (O10) -/

theorem moveAt_congr {longest : DebounceClass} {levels : Mask} {s t : State} {i : PointIndex}
    (hpoint : t.points[i] = s.points[i]) (hcount : t.disagree[i] = s.disagree[i]) :
    moveAt longest levels t i = moveAt longest levels s i := by
  unfold moveAt changesAt seenAt
  rw [hpoint, hcount]

/-- The record that the move of a sample meets: with the condition that the sample takes (R8). -/
def conditionTaken (longest : DebounceClass) (levels : Mask) (s : State) (i : PointIndex) : OwnPoint :=
  if changesAt longest levels s i = true then { s.points[i] with condition := seenAt levels s i } else s.points[i]

theorem conditionTaken_congr {longest : DebounceClass} {levels : Mask} {s t : State} {i : PointIndex}
    (hpoint : t.points[i] = s.points[i]) (hcount : t.disagree[i] = s.disagree[i]) :
    conditionTaken longest levels t i = conditionTaken longest levels s i := by
  unfold conditionTaken changesAt seenAt
  rw [hpoint, hcount]

section Samples

variable (longest : DebounceClass) (levels : Mask) (s : State)

theorem samplePoint_ownHorn (i j : PointIndex) :
    (samplePoint longest levels s i).mirror.ownHorn[j] =
      if j = i then hornMoved (localMode s) (moveAt longest levels s j) s.points[j] s.mirror.ownHorn[j]
      else s.mirror.ownHorn[j] := by
  rw [samplePoint_eq]
  by_cases hc : changesAt longest levels s i = true
  · rw [if_pos hc, conditionEvent, applyMove_ownHorn]
    by_cases e : j = i
    · subst e
      rw [if_pos rfl, if_pos rfl, moveAt, if_pos hc]
      dsimp only
      rw [get_set_fin, if_pos rfl]
      cases conditionMove s.points[j].mode (seenAt levels s j) s.points[j].state <;> rfl
    · rw [if_neg e, if_neg e]
  · rw [if_neg hc]
    split
    · next e => subst e; rw [moveAt, if_neg hc]; rfl
    · rfl

theorem samplePoint_register (i : PointIndex) (g : FirstOutGroup) :
    (samplePoint longest levels s i).mirror.firstOut.get g =
      registerMoved (localMode s) { owner := ownNumber s, index := i } (moveAt longest levels s i) s.points[i] g
        (s.mirror.firstOut.get g) := by
  rw [samplePoint_eq]
  by_cases hc : changesAt longest levels s i = true
  · rw [if_pos hc, conditionEvent, applyMove_register, moveAt, if_pos hc]
    dsimp only
    rw [get_set_fin, if_pos rfl]
    cases conditionMove s.points[i].mode (seenAt levels s i) s.points[i].state <;> rfl
  · rw [if_neg hc, moveAt, if_neg hc]
    rfl

theorem samplePoint_movesEach : MovesEach (samplePoint longest levels) (moveAt longest levels)
    (conditionTaken longest levels) where
  mode s i := samplePoint_localMode longest levels s i
  number s i := by simp [ownNumber]
  moveOther s i j e := moveAt_congr (by rw [samplePoint_points, if_neg e]) (samplePoint_disagree_of_ne _ _ _ e)
  recordOther s i j e := conditionTaken_congr (by rw [samplePoint_points, if_neg e]) (samplePoint_disagree_of_ne _ _ _ e)
  points s i j := samplePoint_points longest levels s i j
  ownHorn s i j := samplePoint_ownHorn longest levels s i j
  register s i g := samplePoint_register longest levels s i g
  list s i := samplePoint_list longest levels s i

theorem countAfter_congr {s t : State} {i : PointIndex} (hpoint : t.points[i] = s.points[i])
    (hcount : t.disagree[i] = s.disagree[i]) : countAfter longest levels t i = countAfter longest levels s i := by
  unfold countAfter seenAt
  rw [hpoint, hcount]

theorem samplePoints_disagree {l : List PointIndex} (hl : l.Nodup) (j : PointIndex) :
    (l.foldl (samplePoint longest levels) s).disagree[j] =
      if j ∈ l then countAfter longest levels s j else s.disagree[j] := by
  induction l generalizing s with
  | nil => simp
  | cons i l ih =>
    obtain ⟨hi, hl⟩ := List.nodup_cons.mp hl
    rw [List.foldl_cons, ih _ hl, samplePoint_disagree]
    by_cases e : j = i
    · subst e
      rw [if_neg hi, if_pos rfl, if_pos List.mem_cons_self]
    · rw [if_neg e, countAfter_congr longest levels (by rw [samplePoint_points, if_neg e])
        (samplePoint_disagree_of_ne _ _ _ e)]
      simp only [List.mem_cons, e, false_or]

/-- The disagree counts of Table 9. -/
theorem countAfter_eq (i : PointIndex) :
    countAfter longest levels s i =
      if s.points[i].enabled = false ∨ sampledAt longest s.points[i].cls = false then s.disagree[i]
      else if seenAt levels s i = s.points[i].condition ∨ s.disagree[i] = 3 then 0 else s.disagree[i] + 1 := by
  unfold countAfter
  cases s.points[i].enabled <;> cases sampledAt longest s.points[i].cls <;>
    simp only [Bool.and_true, Bool.and_false, Bool.false_eq_true, Bool.true_eq_false, if_true, if_false, true_or, or_true, or_self]
  unfold debounce
  by_cases hagree : seenAt levels s i = s.points[i].condition
  · simp [hagree]
  · by_cases hcount : s.disagree[i] = 3 <;> simp [-Fin.getElem_fin, hagree, hcount]

end Samples

theorem mirror_eq_of_remote {m n : MirrorTable} (h : n.remote = m.remote) :
    n = { m with ownHorn := n.ownHorn, firstOut := n.firstOut } := by
  cases n
  cases h
  rfl

/-- What noting the horn leaves of the Panel Driver, in the words of the statements (R153). -/
theorem noteHorn_panel_of_panel {s u : State} (h : u.panel = s.panel) :
    (noteHorn u).panel = { s.panel with hornCut := hornCutAfter s (noteHorn u) } := by
  rw [noteHorn_panel, h]
  rfl

/-- Settles O10: one pass over the sixteen points, each of which is sampled as the state stood before it. -/
theorem fieldInputSampleDebouncesEveryPoint : Obligations.FieldInputSampleDebouncesEveryPoint := by
  intro longest levels s hl
  have hnodup := List.nodup_finRange 16
  have hmoves := samplePoint_movesEach longest levels
  have hpass : ∀ u : State, u = { s with pins := { s.pins with fi := levels } } →
      ∀ i, countAfter longest levels u i = countAfter longest levels s i ∧
        moveAt longest levels u i = moveAt longest levels s i := by
    rintro u rfl i
    exact ⟨rfl, rfl⟩
  refine ⟨_, exec_fieldInputSample_running longest levels s hl, fun i => ⟨?_, ?_⟩, ?_, fun i => ?_, fun g _ => ?_, ?_⟩
  · simp only [noteHorn_frame]
    rw [samplePoints_disagree longest levels _ hnodup, if_pos (List.mem_finRange i), countAfter_eq]
    rfl
  · simp only [noteHorn_frame]
    rw [hmoves.foldl_points hnodup, if_pos (List.mem_finRange i)]
    rfl
  · simp only [noteHorn_frame]
    rw [hmoves.foldl_list hnodup]
    rfl
  · simp only [noteHorn_frame]
    rw [hmoves.foldl_ownHorn hnodup, if_pos (List.mem_finRange i)]
    rfl
  · simp only [noteHorn_frame]
    rw [hmoves.foldl_register hnodup]
    rfl
  · apply state_eq_of_fields
    case mirror => exact mirror_eq_of_remote (by simp)
    case panel => exact noteHorn_panel_of_panel (by simp)
    all_goals simp

end Sys2Proof.Machine
end

section
/-! PROOFS. The keys: their samples, claims and requests (O13 to O17). -/

namespace Sys2Proof.Machine

open Sys2Proof.Safety

/-! ### Claims as a pass

The claims of a key and those of a received request are each one pass of claims over the own points (R117, R119, R130). -/

theorem applyMove_movesEach (move : PointIndex → OwnPoint → Option PointState) :
    MovesEach (fun s i => applyMove i (move i s.points[i]) s) (fun s i => move i s.points[i]) (fun s i => s.points[i]) where
  mode s i := localMode_congr (by simp) (by simp)
  number s i := by simp [ownNumber]
  moveOther s i j e := by rw [applyMove_points, if_neg e]
  recordOther s i j e := by rw [applyMove_points, if_neg e]
  points s i j := by
    rw [applyMove_points]
    by_cases e : j = i
    · subst e; rfl
    · rw [if_neg e, if_neg e]
  ownHorn s i j := by
    rw [applyMove_ownHorn]
    by_cases e : j = i
    · subst e; rfl
    · rw [if_neg e, if_neg e]
  register s i g := applyMove_register i _ s g
  list s i := applyMove_list i _ s

/-- A claim by the table `moveOf` on each own point for which `taken` says so. -/
def claimPass (moveOf : PointMode → PointState → Option PointState) (taken : PointIndex → OwnPoint → Bool) (s : State) :
    State :=
  (List.finRange 16).foldl (fun s i => applyMove i (claimMove moveOf (taken i s.points[i]) s.points[i]) s) s

section ClaimPass

variable (moveOf : PointMode → PointState → Option PointState) (taken : PointIndex → OwnPoint → Bool) (s : State)

theorem claimPass_movesEach :
    MovesEach (fun s i => applyMove i (claimMove moveOf (taken i s.points[i]) s.points[i]) s)
      (fun s i => claimMove moveOf (taken i s.points[i]) s.points[i]) (fun s i => s.points[i]) :=
  applyMove_movesEach fun i r => claimMove moveOf (taken i r) r

theorem claimPass_points (i : PointIndex) :
    (claimPass moveOf taken s).points[i] =
      moved (localMode s) (claimMove moveOf (taken i s.points[i]) s.points[i]) s.points[i] := by
  rw [claimPass, (claimPass_movesEach moveOf taken).foldl_points (List.nodup_finRange 16), if_pos (List.mem_finRange i)]

theorem claimPass_ownHorn (i : PointIndex) :
    (claimPass moveOf taken s).mirror.ownHorn[i] =
      hornMoved (localMode s) (claimMove moveOf (taken i s.points[i]) s.points[i]) s.points[i] s.mirror.ownHorn[i] := by
  rw [claimPass, (claimPass_movesEach moveOf taken).foldl_ownHorn (List.nodup_finRange 16), if_pos (List.mem_finRange i)]

theorem claimPass_register (g : FirstOutGroup) :
    (claimPass moveOf taken s).mirror.firstOut.get g =
      (List.finRange 16).foldl (fun held i =>
        registerMoved (localMode s) { owner := ownNumber s, index := i }
          (claimMove moveOf (taken i s.points[i]) s.points[i]) s.points[i] g held) (s.mirror.firstOut.get g) := by
  rw [claimPass, (claimPass_movesEach moveOf taken).foldl_register (List.nodup_finRange 16)]

theorem claimPass_list :
    (claimPass moveOf taken s).list = s.list ++ (List.finRange 16).filter fun i =>
      (claimMove moveOf (taken i s.points[i]) s.points[i]).isSome && !s.list.contains i := by
  rw [claimPass, (claimPass_movesEach moveOf taken).foldl_list (List.nodup_finRange 16)]

/-- A pass of claims reaches the own points, the list, the own rows and the registers only. -/
@[simp] theorem claimPass_frame :
    (claimPass moveOf taken s).startup = s.startup ∧ (claimPass moveOf taken s).disagree = s.disagree ∧
    (claimPass moveOf taken s).line = s.line ∧ (claimPass moveOf taken s).access = s.access ∧
    (claimPass moveOf taken s).member = s.member ∧ (claimPass moveOf taken s).peers = s.peers ∧
    (claimPass moveOf taken s).mirror.remote = s.mirror.remote ∧ (claimPass moveOf taken s).keys = s.keys ∧
    (claimPass moveOf taken s).queue = s.queue ∧ (claimPass moveOf taken s).time = s.time ∧
    (claimPass moveOf taken s).panel = s.panel ∧ (claimPass moveOf taken s).pins = s.pins ∧
    (claimPass moveOf taken s).pending = s.pending := by
  unfold claimPass
  and_intros
  case refine_2.refine_2.refine_2.refine_2.refine_2.refine_2.refine_1 =>
    exact foldl_keeps (proj := fun s : State => s.mirror.remote) (fun s i => applyMove_remote s i _) _ _
  all_goals exact foldl_keeps (fun _ _ => by simp) _ _

end ClaimPass

theorem claimMove_not_taken (moveOf : PointMode → PointState → Option PointState) (r : OwnPoint) :
    claimMove moveOf false r = none := by simp [claimMove]

/-- A pass in which nothing is claimed. -/
theorem claimPass_none (moveOf : PointMode → PointState → Option PointState) (s : State) :
    claimPass moveOf (fun _ _ => false) s = s := by
  simp only [claimPass, claimMove_not_taken]
  exact foldl_keeps (proj := id) (fun _ _ => rfl) _ _

/-- The claim of a key carries the version that the point has (R19). -/
theorem localClaim_eq {moveOf : PointMode → PointState → Option PointState} {test : PointState → Bool}
    (htest : ∀ mode state, test state = false → moveOf mode state = none) (s : State) (i : PointIndex) :
    localClaim (versionedClaim moveOf) test s i = applyMove i (claimMove moveOf true s.points[i]) s := by
  unfold localClaim versionedClaim claimMove
  cases henabled : s.points[i].enabled
  · rfl
  · cases hstate : test s.points[i].state
    · simp only [Bool.and_false, Bool.and_true, Bool.false_eq_true, if_false, if_true, htest _ _ hstate]
      rfl
    · simp only [Bool.and_true, if_true]
      exact if_pos ⟨henabled, trivial⟩

theorem localClaims_eq {moveOf : PointMode → PointState → Option PointState} {test : PointState → Bool}
    (htest : ∀ mode state, test state = false → moveOf mode state = none) (s : State) :
    (List.finRange 16).foldl (localClaim (versionedClaim moveOf) test) s = claimPass moveOf (fun _ _ => true) s := by
  have hop : localClaim (versionedClaim moveOf) test = fun s i => applyMove i (claimMove moveOf true s.points[i]) s :=
    funext₂ (localClaim_eq htest)
  rw [hop, claimPass]

theorem acknowledgeMove_of_not_unacked (mode : PointMode) (state : PointState) (h : unacked state = false) :
    acknowledgeMove mode state = none := by
  cases mode <;> cases state <;> simp_all [acknowledgeMove, unacked]

theorem resetMove_of_not_cleared (mode : PointMode) (state : PointState) (h : isCleared state = false) :
    resetMove mode state = none := by
  cases mode <;> cases state <;> simp_all [resetMove, isCleared]

/-- No claim moves a point into RAISED or LAPSED, so that its own row's horn flag clears (R103). -/
theorem hornMoved_claim {moveOf : PointMode → PointState → Option PointState}
    (hquiet : ∀ mode state new, moveOf mode state = some new → unacked new = false) (locally taken : Bool)
    (r r' : OwnPoint) (old : Bool) :
    hornMoved locally (claimMove moveOf taken r) r' old = (old && (claimMove moveOf taken r).isNone) := by
  cases hmove : claimMove moveOf taken r with
  | none => simp [hornMoved]
  | some new =>
    have hnew : moveOf r.mode r.state = some new := by
      unfold claimMove at hmove
      split at hmove
      · exact hmove
      · cases hmove
    simp [hornMoved, hquiet _ _ _ hnew]

theorem unacked_acknowledgeMove (mode : PointMode) (state new : PointState) (h : acknowledgeMove mode state = some new) :
    unacked new = false := by
  cases mode <;> cases state <;> cases h <;> rfl

theorem unacked_resetMove (mode : PointMode) (state new : PointState) (h : resetMove mode state = some new) :
    unacked new = false := by
  cases mode <;> cases state <;> simp [resetMove] at h
  subst h
  rfl

/-! ### The samples of the keys (R115, R116) -/

theorem sampleKey_fst (level : Bool) (k : KeyDebounce) : (sampleKey level k).1 = keyAfter level k := by
  unfold sampleKey keyAfter debounce keyReading
  obtain ⟨pressed, disagree⟩ := k
  by_cases hthree : disagree = 3 <;> cases level <;> cases pressed <;> simp [hthree]

theorem sampleKey_press (level : Bool) (k : KeyDebounce) :
    ((sampleKey level k).2 && (sampleKey level k).1.pressed) = presses level k := by
  unfold sampleKey presses debounce keyReading
  obtain ⟨pressed, disagree⟩ := k
  by_cases hthree : disagree = 3 <;> cases level <;> cases pressed <;> simp [hthree]

theorem sampleKey_change (level : Bool) (k : KeyDebounce) :
    (sampleKey level k).2 = ((keyAfter level k).pressed != k.pressed) := by
  unfold sampleKey keyAfter debounce keyReading
  obtain ⟨pressed, disagree⟩ := k
  by_cases hthree : disagree = 3 <;> cases level <;> cases pressed <;> simp [hthree]

/-- What a press of KACK or KRST does, if there is one: a pass of claims, and the requests of the rows (R117 to R119). -/
def keyPass (moveOf : PointMode → PointState → Option PointState) (make : StationNo → List ReqPair → Request)
    (test : PointState → Bool) (pressed : Bool) (s : State) : State :=
  { claimPass moveOf (fun _ _ => pressed) s with queue := queueAfterPress pressed (requestsFor make test s) s.queue }

section KeyPass

variable (moveOf : PointMode → PointState → Option PointState) (make : StationNo → List ReqPair → Request)
  (test : PointState → Bool)

/-- The pair of a row whose state `test` accepts, as `requestFor` reads it (R118, R119). -/
def pairAt (s : State) (p : StationNo) (i : PointIndex) : Option ReqPair :=
  match (rowOf s p i).content with
  | some pair => if test pair.state then some { index := i, version := pair.version } else none
  | none => none

theorem requestFor_pairAt (s : State) (p : StationNo) :
    requestFor make test s p =
      if isPresent s p && !((List.finRange 16).filterMap (pairAt test s p)).isEmpty then
        some (make p ((List.finRange 16).filterMap (pairAt test s p))) else none := rfl

theorem pairAt_of_ne {s : State} {p : StationNo} (h : p ≠ ownNumber s) (i : PointIndex) :
    pairAt test s p i =
      (s.mirror.remote[p][i].content.filter fun c => test c.state).map fun c => { index := i, version := c.version } := by
  unfold pairAt
  rw [rowOf_remote (p := { owner := p, index := i }) h]
  cases s.mirror.remote[p][i].content with
  | none => rfl
  | some pair => cases htest : test pair.state <;> simp [htest, Option.filter]

theorem ne_ownNumber_of_isPresent {s : State} {p : StationNo} (h : isPresent s p = true) : p ≠ ownNumber s := by
  rintro rfl
  simp [isPresent] at h

/-- The requests of one press, in the words of the statements (R118, R119). -/
theorem requestsOf_eq (s : State) : requestsOf make test s = requestsFor make test s := by
  unfold requestsOf requestsFor
  rw [← List.filterMap_eq_map, List.filterMap_filter]
  refine List.filterMap_congr fun p _ => ?_
  rw [requestFor_pairAt]
  cases hp : isPresent s p with
  | false => rfl
  | true =>
    have hpairs : (List.finRange 16).filterMap (pairAt test s p) = pairsFor test s p :=
      List.filterMap_congr fun i _ => pairAt_of_ne test (ne_ownNumber_of_isPresent hp) i
    rw [hpairs]
    rfl

theorem press_eq {test' : PointState → Bool}
    (htest : ∀ mode state, test' state = false → moveOf mode state = none) (s : State) :
    { (List.finRange 16).foldl (localClaim (versionedClaim moveOf) test') s with
      queue := pressOffers (requestsOf make test s)
        ((List.finRange 16).foldl (localClaim (versionedClaim moveOf) test') s).queue } =
      keyPass moveOf make test true s := by
  rw [localClaims_eq htest, requestsOf_eq]
  simp only [keyPass, claimPass_frame]
  rfl

theorem keyPass_none (s : State) : keyPass moveOf make test false s = s := by
  unfold keyPass
  rw [claimPass_none]
  rfl

end KeyPass

theorem pressKack_eq (s : State) : pressKack s = keyPass acknowledgeMove .ackReq unacked true s := by
  rw [← press_eq _ _ _ acknowledgeMove_of_not_unacked]
  rfl

theorem pressKrst_eq (s : State) : pressKrst s = keyPass resetMove .resetReq isCleared true s := by
  rw [← press_eq _ _ _ resetMove_of_not_cleared]
  rfl

theorem sampleKack_eq (level : Bool) (s : State) :
    sampleKack level s =
      keyPass acknowledgeMove .ackReq unacked (presses level s.keys.kack)
        { s with keys := { s.keys with kack := keyAfter level s.keys.kack } } := by
  change (if ((sampleKey level s.keys.kack).2 && (sampleKey level s.keys.kack).1.pressed) = true then
      pressKack { s with keys := { s.keys with kack := (sampleKey level s.keys.kack).1 } }
    else { s with keys := { s.keys with kack := (sampleKey level s.keys.kack).1 } }) = _
  rw [sampleKey_press, sampleKey_fst]
  cases presses level s.keys.kack with
  | false => rw [keyPass_none, if_neg Bool.false_ne_true]
  | true => rw [← pressKack_eq, if_pos rfl]

theorem sampleKrst_eq (level : Bool) (s : State) :
    sampleKrst level s =
      keyPass resetMove .resetReq isCleared (presses level s.keys.krst)
        { s with keys := { s.keys with krst := keyAfter level s.keys.krst } } := by
  change (if ((sampleKey level s.keys.krst).2 && (sampleKey level s.keys.krst).1.pressed) = true then
      pressKrst { s with keys := { s.keys with krst := (sampleKey level s.keys.krst).1 } }
    else { s with keys := { s.keys with krst := (sampleKey level s.keys.krst).1 } }) = _
  rw [sampleKey_press, sampleKey_fst]
  cases presses level s.keys.krst with
  | false => rw [keyPass_none, if_neg Bool.false_ne_true]
  | true => rw [← pressKrst_eq, if_pos rfl]

/-- A press of KSIL, if there is one (R120). -/
theorem sampleKsil_eq (level : Bool) (s : State) :
    sampleKsil level s =
      if presses level s.keys.ksil = true then
        pressKsil { s with keys := { s.keys with ksil := keyAfter level s.keys.ksil } }
      else { s with keys := { s.keys with ksil := keyAfter level s.keys.ksil } } := by
  change (if ((sampleKey level s.keys.ksil).2 && (sampleKey level s.keys.ksil).1.pressed) = true then
      pressKsil { s with keys := { s.keys with ksil := (sampleKey level s.keys.ksil).1 } }
    else { s with keys := { s.keys with ksil := (sampleKey level s.keys.ksil).1 } }) = _
  rw [sampleKey_press, sampleKey_fst]

theorem sampleKtst_keys (level : Bool) (s : State) :
    (sampleKtst level s).keys =
      { s.keys with
        ktst := keyAfter level s.keys.ktst
        testHeld := if (keyAfter level s.keys.ktst).pressed = s.keys.ktst.pressed then s.keys.testHeld
          else (keyAfter level s.keys.ktst).pressed } := by
  simp only [sampleKtst, sampleKey_change, sampleKey_fst]
  cases (keyAfter level s.keys.ktst).pressed <;> cases s.keys.ktst.pressed <;> rfl

/-! ### The keys of one sample (O13, O14) -/

section KeyPassLaws

variable (moveOf : PointMode → PointState → Option PointState) (make : StationNo → List ReqPair → Request)
  (test : PointState → Bool) (pressed : Bool) (s : State)

/-- A press of KACK or KRST reaches the own points, the list, the own rows, the registers and the queue only. -/
@[simp] theorem keyPass_frame :
    (keyPass moveOf make test pressed s).startup = s.startup ∧ (keyPass moveOf make test pressed s).disagree = s.disagree ∧
    (keyPass moveOf make test pressed s).line = s.line ∧ (keyPass moveOf make test pressed s).access = s.access ∧
    (keyPass moveOf make test pressed s).member = s.member ∧ (keyPass moveOf make test pressed s).peers = s.peers ∧
    (keyPass moveOf make test pressed s).mirror.remote = s.mirror.remote ∧
    (keyPass moveOf make test pressed s).keys = s.keys ∧ (keyPass moveOf make test pressed s).time = s.time ∧
    (keyPass moveOf make test pressed s).panel = s.panel ∧ (keyPass moveOf make test pressed s).pins = s.pins ∧
    (keyPass moveOf make test pressed s).pending = s.pending := by
  simp [keyPass]

theorem keyPass_own : (keyPass moveOf make test pressed s).points = (claimPass moveOf (fun _ _ => pressed) s).points ∧
    (keyPass moveOf make test pressed s).list = (claimPass moveOf (fun _ _ => pressed) s).list ∧
    (keyPass moveOf make test pressed s).mirror = (claimPass moveOf (fun _ _ => pressed) s).mirror := by
  simp only [keyPass, and_self]

theorem keyPass_localMode : localMode (keyPass moveOf make test pressed s) = localMode s := localMode_congr (by simp) (by simp)

/-- `t` is `s` after a pass of claims by `moveOf`, taken if `pressed` says so, none of which leaves its point unacknowledged. -/
structure ClaimsMade (moveOf : PointMode → PointState → Option PointState) (pressed : Bool) (s t : State) : Prop where
  mode : localMode t = localMode s
  number : ownNumber t = ownNumber s
  points : ∀ i : PointIndex, t.points[i] = moved (localMode s) (claimMove moveOf pressed s.points[i]) s.points[i]
  ownHorn : ∀ i : PointIndex, t.mirror.ownHorn[i] = (s.mirror.ownHorn[i] && (claimMove moveOf pressed s.points[i]).isNone)
  register : ∀ g, t.mirror.firstOut.get g = (List.finRange 16).foldl (fun held i =>
    registerMoved (localMode s) { owner := ownNumber s, index := i } (claimMove moveOf pressed s.points[i]) s.points[i] g held)
    (s.mirror.firstOut.get g)
  list : t.list = s.list ++ (List.finRange 16).filter fun i =>
    (claimMove moveOf pressed s.points[i]).isSome && !s.list.contains i

theorem keyPass_claimsMade (hquiet : ∀ mode state new, moveOf mode state = some new → unacked new = false) :
    ClaimsMade moveOf pressed s (keyPass moveOf make test pressed s) where
  mode := keyPass_localMode moveOf make test pressed s
  number := by simp [ownNumber]
  points i := by
    simp only [keyPass_own]
    exact claimPass_points moveOf (fun _ _ => pressed) s i
  ownHorn i := by
    simp only [keyPass_own]
    rw [← hornMoved_claim hquiet (localMode s) pressed s.points[i] s.points[i]]
    exact claimPass_ownHorn moveOf (fun _ _ => pressed) s i
  register g := by
    simp only [keyPass_own]
    exact claimPass_register moveOf (fun _ _ => pressed) s g
  list := by
    simp only [keyPass_own]
    exact claimPass_list moveOf (fun _ _ => pressed) s

end KeyPassLaws

theorem sampleKack_keys (level : Bool) (s : State) :
    (sampleKack level s).keys = { s.keys with kack := keyAfter level s.keys.kack } := by
  rw [sampleKack_eq]; simp

theorem sampleKrst_keys (level : Bool) (s : State) :
    (sampleKrst level s).keys = { s.keys with krst := keyAfter level s.keys.krst } := by
  rw [sampleKrst_eq]; simp

theorem sampleKsil_keys (level : Bool) (s : State) :
    (sampleKsil level s).keys = { s.keys with ksil := keyAfter level s.keys.ksil } := by
  rw [sampleKsil_eq]; split <;> simp

/-- The Key Scanner after a sample of its four keys (R115, R116, R121). -/
theorem sampleKeys_keys (levels : KeyPins) (s : State) :
    (sampleKtst levels.ktst (sampleKsil levels.ksil (sampleKrst levels.krst (sampleKack levels.kack s)))).keys =
      { kack := keyAfter levels.kack s.keys.kack, krst := keyAfter levels.krst s.keys.krst
        ksil := keyAfter levels.ksil s.keys.ksil, ktst := keyAfter levels.ktst s.keys.ktst
        testHeld := if (keyAfter levels.ktst s.keys.ktst).pressed = s.keys.ktst.pressed then s.keys.testHeld
          else (keyAfter levels.ktst s.keys.ktst).pressed } := by
  rw [sampleKtst_keys, sampleKsil_keys, sampleKrst_keys, sampleKack_keys]

/-- Where none of KACK, KRST and KSIL is pressed, a sample writes the Key Scanner only. -/
theorem sampleKeys_of_none {levels : KeyPins} {s : State} (hkack : presses levels.kack s.keys.kack = false)
    (hkrst : presses levels.krst s.keys.krst = false) (hksil : presses levels.ksil s.keys.ksil = false) :
    let t := sampleKtst levels.ktst (sampleKsil levels.ksil (sampleKrst levels.krst (sampleKack levels.kack s)))
    t = { s with keys := t.keys } := by
  rw [sampleKack_eq, hkack, keyPass_none, sampleKrst_eq, hkrst, keyPass_none, sampleKsil_eq,
    if_neg (ne_true_of_eq_false hksil)]
  rfl

/-- Settles O13. -/
theorem keySampleDebouncesTheKeys : Obligations.KeySampleDebouncesTheKeys := by
  intro levels s hl
  refine ⟨_, exec_keySample_running levels s hl, ?_, ?_, ?_, ?_, ?_, fun hkack hkrst hksil => ?_, ?_⟩
  case refine_6 =>
    apply state_eq_of_fields
    case panel => exact noteHorn_panel_of_panel (by simp)
    all_goals rw [sampleKeys_of_none (s := { s with pins := { s.pins with keys := levels } }) hkack hkrst hksil]
    all_goals simp
  case refine_7 =>
    apply state_eq_of_fields
    case panel => exact noteHorn_panel_of_panel (by simp)
    all_goals simp
  all_goals simp only [noteHorn_frame, sampleKeys_keys]

/-- The keys, the pins and the queue have no part in the claims. -/
theorem ClaimsMade.congr {moveOf : PointMode → PointState → Option PointState} {pressed : Bool} {s s' t : State}
    (h : ClaimsMade moveOf pressed s' t) (hmode : localMode s' = localMode s) (hnumber : ownNumber s' = ownNumber s)
    (hpoints : s'.points = s.points) (hmirror : s'.mirror = s.mirror) (hlist : s'.list = s.list) :
    ClaimsMade moveOf pressed s t := by
  obtain ⟨mode, number, points, ownHorn, register, list⟩ := h
  rw [hmode] at mode points register
  rw [hnumber] at number register
  rw [hpoints] at points ownHorn register list
  rw [hmirror] at ownHorn register
  rw [hlist] at list
  exact ⟨mode, number, points, ownHorn, register, list⟩

theorem sampleKack_claimsMade (level : Bool) (s : State) :
    ClaimsMade acknowledgeMove (presses level s.keys.kack) s (sampleKack level s) := by
  rw [sampleKack_eq]
  exact (keyPass_claimsMade _ _ _ _ _ unacked_acknowledgeMove).congr rfl rfl rfl rfl rfl

theorem sampleKrst_claimsMade (level : Bool) (s : State) :
    ClaimsMade resetMove (presses level s.keys.krst) s (sampleKrst level s) := by
  rw [sampleKrst_eq]
  exact (keyPass_claimsMade _ _ _ _ _ unacked_resetMove).congr rfl rfl rfl rfl rfl

/-- What KSIL does to the Mirror Table: in local publication mode a silence publication (R109, R120). -/
theorem sampleKsil_mirror (level : Bool) (s : State) :
    (sampleKsil level s).mirror.firstOut = s.mirror.firstOut ∧
    (∀ i : PointIndex, (sampleKsil level s).mirror.ownHorn[i] =
      (s.mirror.ownHorn[i] && !(presses level s.keys.ksil && localMode s))) ∧
    ∀ p i : Fin 16, (sampleKsil level s).mirror.remote[p][i] =
      if presses level s.keys.ksil = true ∧ localMode s = true then { s.mirror.remote[p][i] with horn := false }
      else s.mirror.remote[p][i] := by
  rw [sampleKsil_eq]
  cases presses level s.keys.ksil with
  | false => simp
  | true =>
    unfold pressKsil
    cases hlocal : localMode s with
    | false =>
      have hmode : ∀ k q, localMode { s with keys := k, queue := q } = false := fun _ _ => hlocal
      simp [hmode]
    | true =>
      have hmode : ∀ k q, localMode { s with keys := k, queue := q } = true := fun _ _ => hlocal
      simp only [hmode, if_true, and_self]
      exact ⟨rfl, fun i => by simp [silencePublication], fun p i => silencePublication_remote _ p i⟩

/-- The list after two passes of claims: what the first one lists is not listed again. -/
theorem filter_after_filter (l list : List PointIndex) (first second : PointIndex → Bool) :
    (l.filter fun i => second i && !(list ++ l.filter fun i => first i && !list.contains i).contains i) =
      l.filter fun i => second i && !first i && !list.contains i := by
  refine List.filter_congr fun i hi => ?_
  simp only [List.contains_eq_mem, List.mem_append, List.mem_filter, hi, true_and]
  cases second i <;> cases first i <;> by_cases hin : i ∈ list <;> simp [hin]

/-- Settles O14: the two passes of claims, one after the other, and the silence publication after them. -/
theorem keyClaimsOnOwnPoints : Obligations.KeyClaimsOnOwnPoints := by
  intro levels s kack krst ksil hl hkack hkrst hksil
  refine ⟨_, exec_keySample_running levels s hl, ?_⟩
  simp only [noteHorn_frame, sampleKtst_frame, sampleKsil_frame]
  have hfirst : ClaimsMade acknowledgeMove kack s (sampleKack levels.kack { s with pins := { s.pins with keys := levels } }) := by
    rw [← hkack]
    exact (sampleKack_claimsMade levels.kack { s with pins := { s.pins with keys := levels } }).congr rfl rfl rfl rfl rfl
  have hkeys := sampleKack_keys levels.kack { s with pins := { s.pins with keys := levels } }
  have hrows := (sampleKack_remote { s with pins := { s.pins with keys := levels } } levels.kack)
  generalize sampleKack levels.kack { s with pins := { s.pins with keys := levels } } = v at hfirst hkeys hrows ⊢
  have hsecond : ClaimsMade resetMove krst v (sampleKrst levels.krst v) := by
    have h := sampleKrst_claimsMade levels.krst v
    rw [hkeys] at h
    rwa [hkrst] at h
  have hksil' : presses levels.ksil (sampleKrst levels.krst v).keys.ksil = ksil := by
    rw [sampleKrst_keys, hkeys, ← hksil]
  obtain ⟨hregister, hhorn, hremote⟩ := sampleKsil_mirror levels.ksil (sampleKrst levels.krst v)
  rw [hksil', hsecond.mode, hfirst.mode] at hhorn hremote
  have hpoints : ∀ i : PointIndex, v.points[i] = afterKack (localMode s) kack s.points[i] := hfirst.points
  have hmove : ∀ i : PointIndex, claimMove resetMove krst (afterKack (localMode s) kack s.points[i]) =
      krstMove (localMode s) kack krst s.points[i] := fun _ => rfl
  refine ⟨fun i => ⟨?_, ?_⟩, ?_, fun g _ => ?_, fun p i => ?_⟩
  · rw [hsecond.points, hpoints, hfirst.mode, hmove]
  · rw [hhorn, hsecond.ownHorn, hfirst.ownHorn, hpoints, hmove]
    rfl
  · rw [hsecond.list, hfirst.list, filter_after_filter]
    simp only [hpoints, hmove, Option.not_isSome]
    rfl
  · rw [hregister, hsecond.register, hfirst.register]
    simp only [hpoints, hmove, hfirst.mode, hfirst.number]
    rfl
  · rw [hremote, sampleKrst_remote, hrows]

/-! ### Offers (O17) -/

theorem any_sameKey_iff (q : RequestQueue) (r : Request) :
    (q.entries.any fun e => sameKey e.request r) = true ↔
      ∃ e ∈ q.entries, requestKind e.request = requestKind r ∧ targetOf e.request = targetOf r := by
  simp only [List.any_eq_true, sameKey_iff]

/-- Settles O17. -/
theorem offerMergesAppendsOrRefuses : Obligations.OfferMergesAppendsOrRefuses := by
  intro q r
  refine ⟨fun hkey => ?_, fun hnew => ?_⟩
  · rw [offer, if_pos ((any_sameKey_iff q r).mpr hkey)]
    congr 1
    refine List.map_congr_left fun e _ => ?_
    simp only [mergeInto, sameKey_iff]
  · have hany : ¬(q.entries.any fun e => sameKey e.request r) = true := fun h => by
      obtain ⟨e, he, hkey⟩ := (any_sameKey_iff q r).mp h
      exact hnew e he hkey
    refine ⟨fun hroom => ?_, fun hfull => ?_⟩
    · rw [offer, if_neg hany, if_pos hroom]
    · rw [offer, if_neg hany, if_neg (by omega)]

/-! ### A press of KACK or KRST (O15) -/

section Offer

variable {q : RequestQueue} {r r' : Request} {e : RequestEntry}

theorem sameKey_self (r : Request) : sameKey r r = true := (sameKey_iff r r).mpr ⟨rfl, rfl⟩

theorem mergeInto_request (r : Request) (e : RequestEntry) :
    (mergeInto r e).request = if sameKey e.request r = true then r else e.request := by
  unfold mergeInto
  split <;> rfl

theorem mergeInto_of_ne (h : sameKey e.request r = false) : mergeInto r e = e := if_neg (ne_true_of_eq_false h)

/-- The three outcomes of an offer (R123, R124). -/
theorem offer_cases (q : RequestQueue) (r : Request) :
    ((∃ e ∈ q.entries, sameKey e.request r = true) ∧ offer q r = { q with entries := q.entries.map (mergeInto r) }) ∨
    ((∀ e ∈ q.entries, sameKey e.request r = false) ∧ q.entries.length < 16 ∧
      offer q r = { q with entries := q.entries ++ [{ request := r, inFlight := false, merged := false }] }) ∨
    ((∀ e ∈ q.entries, sameKey e.request r = false) ∧ 16 ≤ q.entries.length ∧ offer q r = { q with refused := true }) := by
  by_cases hany : (q.entries.any fun e => sameKey e.request r) = true
  · exact .inl ⟨List.any_eq_true.mp hany, if_pos hany⟩
  · have hnone : ∀ e ∈ q.entries, sameKey e.request r = false := by simpa using hany
    right
    by_cases hroom : q.entries.length < 16
    · exact .inl ⟨hnone, hroom, by rw [offer, if_neg hany, if_pos hroom]⟩
    · exact .inr ⟨hnone, by omega, by rw [offer, if_neg hany, if_neg hroom]⟩

/-- No entry is new but the request. -/
theorem mem_offer (h : e ∈ (offer q r).entries) : e ∈ q.entries ∨ e.request = r := by
  rcases offer_cases q r with ⟨-, heq⟩ | ⟨-, -, heq⟩ | ⟨-, -, heq⟩ <;> rw [heq] at h
  · obtain ⟨a, ha, rfl⟩ := List.mem_map.mp h
    unfold mergeInto
    split
    · exact .inr rfl
    · exact .inl ha
  · rcases List.mem_append.mp h with h | h
    · exact .inl h
    · exact .inr (by rw [List.mem_singleton.mp h])
  · exact .inl h

theorem offer_length_le : (offer q r).entries.length ≤ q.entries.length + 1 := by
  rcases offer_cases q r with ⟨-, heq⟩ | ⟨-, -, heq⟩ | ⟨-, -, heq⟩ <;> rw [heq] <;> simp

theorem length_le_offer : q.entries.length ≤ (offer q r).entries.length := by
  rcases offer_cases q r with ⟨-, heq⟩ | ⟨-, -, heq⟩ | ⟨-, -, heq⟩ <;> rw [heq] <;> simp

/-- REQUEST REFUSED stays set until the next press. -/
theorem offer_refused_of_refused (h : q.refused = true) : (offer q r).refused = true := by
  rcases offer_cases q r with ⟨-, heq⟩ | ⟨-, -, heq⟩ | ⟨-, -, heq⟩ <;> rw [heq]
  · exact h
  · exact h

/-- A refusal finds a full queue without an entry of this kind and target. -/
theorem of_offer_refused (hq : q.refused = false) (h : (offer q r).refused = true) :
    16 ≤ q.entries.length ∧ (∀ e ∈ q.entries, sameKey e.request r = false) ∧ (offer q r).entries = q.entries := by
  rcases offer_cases q r with ⟨-, heq⟩ | ⟨-, -, heq⟩ | ⟨hnone, hfull, heq⟩
  · rw [heq] at h
    exact absurd (hq.symm.trans h) Bool.false_ne_true
  · rw [heq] at h
    exact absurd (hq.symm.trans h) Bool.false_ne_true
  · exact ⟨hfull, hnone, by rw [heq]⟩

/-- An offer that is not refused is in the queue. -/
theorem exists_mem_offer (h : (offer q r).refused = false) : ∃ e ∈ (offer q r).entries, e.request = r := by
  rcases offer_cases q r with ⟨⟨e, he, hkey⟩, heq⟩ | ⟨-, -, heq⟩ | ⟨-, -, heq⟩
  · rw [heq]
    exact ⟨_, List.mem_map_of_mem he, by rw [mergeInto_request, if_pos hkey]⟩
  · rw [heq]
    exact ⟨_, List.mem_append_right _ List.mem_cons_self, rfl⟩
  · rw [heq] at h
    cases h

/-- An offer leaves the entries of another kind or target as they are. -/
theorem mem_offer_of_ne (he : e ∈ q.entries) (hne : sameKey e.request r = false) : e ∈ (offer q r).entries := by
  rcases offer_cases q r with ⟨-, heq⟩ | ⟨-, -, heq⟩ | ⟨-, -, heq⟩ <;> rw [heq]
  · exact List.mem_map.mpr ⟨e, he, mergeInto_of_ne hne⟩
  · exact List.mem_append_left _ he
  · exact he

/-- The kind and target of the entries, in the order of the queue. -/
def queueKeys (q : RequestQueue) : List (FrameKind × Option StationNo) :=
  q.entries.map fun e => (requestKind e.request, targetOf e.request)

/-- The entries queued before keep their places. -/
theorem queueKeys_offer : queueKeys q <+: queueKeys (offer q r) := by
  unfold queueKeys
  rcases offer_cases q r with ⟨-, heq⟩ | ⟨-, -, heq⟩ | ⟨-, -, heq⟩ <;> rw [heq]
  · rw [List.map_map]
    have hkeys : (q.entries.map ((fun e => (requestKind e.request, targetOf e.request)) ∘ mergeInto r)) =
        q.entries.map fun e => (requestKind e.request, targetOf e.request) :=
      List.map_congr_left fun e _ => by
        obtain ⟨hkind, htarget, -⟩ := mergeInto_key r e
        exact Prod.ext hkind htarget
    rw [hkeys]
  · rw [List.map_append]
    exact List.prefix_append _ _

end Offer

section Offers

variable {rs : List Request} {q : RequestQueue}

theorem mem_offers {e : RequestEntry} (h : e ∈ (rs.foldl offer q).entries) : e ∈ q.entries ∨ e.request ∈ rs := by
  induction rs generalizing q with
  | nil => exact .inl h
  | cons r rs ih =>
    rcases ih h with h | h
    · rcases mem_offer h with h | h
      · exact .inl h
      · exact .inr (h ▸ List.mem_cons_self)
    · exact .inr (List.mem_cons_of_mem r h)

theorem length_le_offers : q.entries.length ≤ (rs.foldl offer q).entries.length := by
  induction rs generalizing q with
  | nil => exact le_rfl
  | cons r rs ih => exact length_le_offer.trans ih

theorem offers_refused_of_refused (h : q.refused = true) : (rs.foldl offer q).refused = true := by
  induction rs generalizing q with
  | nil => exact h
  | cons r rs ih => exact ih (offer_refused_of_refused h)

theorem mem_offers_of_ne {e : RequestEntry} (he : e ∈ q.entries) (hne : ∀ r ∈ rs, sameKey e.request r = false) :
    e ∈ (rs.foldl offer q).entries := by
  induction rs generalizing q with
  | nil => exact he
  | cons r rs ih =>
    exact ih (mem_offer_of_ne he (hne r List.mem_cons_self)) fun r' hr' => hne r' (List.mem_cons_of_mem r hr')

theorem queueKeys_offers : queueKeys q <+: queueKeys (rs.foldl offer q) := by
  induction rs generalizing q with
  | nil => exact List.prefix_refl _
  | cons r rs ih => exact queueKeys_offer.trans ih

/-- A refusal leaves a full queue (R124). -/
theorem full_of_offers_refused (hq : q.refused = false) (h : (rs.foldl offer q).refused = true) :
    16 ≤ (rs.foldl offer q).entries.length := by
  induction rs generalizing q with
  | nil => exact absurd (hq.symm.trans h) Bool.false_ne_true
  | cons r rs ih =>
    cases hr : (offer q r).refused with
    | false => exact ih hr h
    | true => exact (of_offer_refused hq hr).1.trans (length_le_offer.trans (length_le_offers (rs := rs)))

/-- Where there is room for all of them none is refused. -/
theorem offers_taken_of_room (hq : q.refused = false) (hroom : q.entries.length + rs.length ≤ 16) :
    (rs.foldl offer q).refused = false := by
  induction rs generalizing q with
  | nil => exact hq
  | cons r rs ih =>
    rw [List.length_cons] at hroom
    refine ih ?_ (by have := offer_length_le (q := q) (r := r); omega)
    cases hr : (offer q r).refused with
    | false => rfl
    | true => have := (of_offer_refused hq hr).1; omega

/-- Of offers of different kinds or targets none is refused exactly if every one of them is in the queue after them. -/
theorem offers_taken_iff (hq : q.refused = false) (hkeys : rs.Pairwise fun a b => sameKey a b = false) :
    (rs.foldl offer q).refused = false ↔ ∀ r ∈ rs, ∃ e ∈ (rs.foldl offer q).entries, e.request = r := by
  induction rs generalizing q with
  | nil => simpa using hq
  | cons r rs ih =>
    obtain ⟨hr, hrs⟩ := List.pairwise_cons.mp hkeys
    rw [List.foldl_cons, List.forall_mem_cons]
    constructor
    · intro h
      cases hfirst : (offer q r).refused with
      | true => exact absurd (h.symm.trans (offers_refused_of_refused hfirst)) Bool.false_ne_true
      | false =>
        obtain ⟨e, he, rfl⟩ := exists_mem_offer hfirst
        exact ⟨⟨e, mem_offers_of_ne he hr, rfl⟩, (ih hfirst hrs).mp h⟩
    · rintro ⟨⟨e, he, rfl⟩, hrest⟩
      refine (ih ?_ hrs).mpr hrest
      cases hfirst : (offer q e.request).refused with
      | false => rfl
      | true =>
        obtain ⟨-, hnone, hentries⟩ := of_offer_refused hq hfirst
        rcases mem_offers he with he | he
        · rw [hentries] at he
          exact absurd ((hnone e he).symm.trans (sameKey_self _)) Bool.false_ne_true
        · exact absurd ((hr _ he).symm.trans (sameKey_self _)) Bool.false_ne_true

end Offers

/-! ### The requests of the keys (O15, O16) -/

theorem mem_requestsFor {make : StationNo → List ReqPair → Request} {test : PointState → Bool} {s : State} {r : Request} :
    r ∈ requestsFor make test s ↔ ∃ p, (isPresent s p = true ∧ pairsFor test s p ≠ []) ∧ make p (pairsFor test s p) = r := by
  simp [requestsFor]

theorem length_requestsFor_le (make : StationNo → List ReqPair → Request) (test : PointState → Bool) (s : State) :
    (requestsFor make test s).length ≤ 16 := by
  rw [requestsFor, List.length_map]
  exact (List.length_filter_le _ _).trans (by simp)

/-- The requests of one press have different targets. -/
theorem requestsFor_keys {make : StationNo → List ReqPair → Request} (hmake : ∀ p pairs, targetOf (make p pairs) = some p)
    (test : PointState → Bool) (s : State) : (requestsFor make test s).Pairwise fun a b => sameKey a b = false := by
  rw [requestsFor, List.pairwise_map]
  refine ((List.nodup_finRange 16).filter _).imp fun {p q} hne => ?_
  rw [sameKey_eq_false_iff, hmake, hmake]
  exact fun h => hne (Option.some.inj h.2)

/-- What a press of KACK or KRST alone makes of the queue (R118, R119, R123, R124). -/
theorem press_queue {make : StationNo → List ReqPair → Request} (hmake : ∀ p pairs, targetOf (make p pairs) = some p)
    (test : PointState → Bool) (s : State) {q : RequestQueue}
    (hq : q = queueAfterPress true (requestsFor make test s) s.queue) :
    (∀ e ∈ q.entries, e ∈ s.queue.entries ∨
      ∃ p : Fin 16, isPresent s p = true ∧ pairsFor test s p ≠ [] ∧ e.request = make p (pairsFor test s p)) ∧
    (q.refused = false ↔ ∀ p : Fin 16, isPresent s p = true → pairsFor test s p ≠ [] →
      ∃ e ∈ q.entries, e.request = make p (pairsFor test s p)) ∧
    (q.refused = true → 16 ≤ q.entries.length) ∧ (s.queue.entries = [] → q.refused = false) := by
  subst hq
  refine ⟨fun e he => ?_, ?_, fun h => full_of_offers_refused rfl h, fun h => offers_taken_of_room rfl ?_⟩
  · refine (mem_offers (q := { s.queue with refused := false }) he).imp_right fun hr => ?_
    obtain ⟨p, ⟨hp, hpairs⟩, hr⟩ := mem_requestsFor.mp hr
    exact ⟨p, hp, hpairs, hr.symm⟩
  · refine (offers_taken_iff (q := { s.queue with refused := false }) rfl (requestsFor_keys hmake test s)).trans ?_
    refine ⟨fun h p hp hpairs => h _ (mem_requestsFor.mpr ⟨p, ⟨hp, hpairs⟩, rfl⟩), fun h r hr => ?_⟩
    obtain ⟨p, ⟨hp, hpairs⟩, rfl⟩ := mem_requestsFor.mp hr
    exact h p hp hpairs
  · rw [h, List.length_nil, Nat.zero_add]
    exact length_requestsFor_le make test s

theorem queueKeys_queueAfterPress (pressed : Bool) (rs : List Request) (q : RequestQueue) :
    queueKeys q <+: queueKeys (queueAfterPress pressed rs q) := by
  cases pressed with
  | false => exact List.prefix_refl _
  | true => exact queueKeys_offers (q := { q with refused := false })

theorem requestsFor_congr {s t : State} (hpresent : isPresent t = isPresent s) (hremote : t.mirror.remote = s.mirror.remote)
    (make : StationNo → List ReqPair → Request) (test : PointState → Bool) :
    requestsFor make test t = requestsFor make test s := by
  have hpairs : pairsFor test t = pairsFor test s := by
    funext p
    unfold pairsFor
    rw [hremote]
  unfold requestsFor
  rw [hpresent, hpairs]

theorem sampleKack_queue (level : Bool) (s : State) :
    (sampleKack level s).queue =
      queueAfterPress (presses level s.keys.kack) (requestsFor .ackReq unacked s) s.queue := by
  rw [sampleKack_eq]
  rfl

theorem sampleKrst_queue (level : Bool) (s : State) :
    (sampleKrst level s).queue =
      queueAfterPress (presses level s.keys.krst) (requestsFor .resetReq isCleared s) s.queue := by
  rw [sampleKrst_eq]
  rfl

theorem sampleKsil_queue (level : Bool) (s : State) :
    (sampleKsil level s).queue = queueAfterPress (presses level s.keys.ksil) [.silence] s.queue := by
  rw [sampleKsil_eq]
  split
  · next h => rw [pressKsil_queue, h]; rfl
  · next h => rw [eq_false_of_ne_true h]; rfl

/-- The queue after a sample of the four keys (R116). -/
theorem sampleKeys_queue (levels : KeyPins) (s : State) :
    (sampleKtst levels.ktst (sampleKsil levels.ksil (sampleKrst levels.krst (sampleKack levels.kack s)))).queue =
      queueAfterPress (presses levels.ksil s.keys.ksil) [.silence]
        (queueAfterPress (presses levels.krst s.keys.krst) (requestsFor .resetReq isCleared s)
          (queueAfterPress (presses levels.kack s.keys.kack) (requestsFor .ackReq unacked s) s.queue)) := by
  have hpresent : isPresent (sampleKack levels.kack s) = isPresent s := isPresent_congr (by simp) (by simp [ownNumber])
  simp only [sampleKtst_frame]
  rw [sampleKsil_queue, sampleKrst_queue, sampleKack_queue, sampleKrst_keys, sampleKack_keys,
    requestsFor_congr hpresent (sampleKack_remote s levels.kack)]

/-- Settles O15. -/
theorem keyRequestsNameTheRows : Obligations.KeyRequestsNameTheRows := by
  intro levels s kack krst ksil hl hkack hkrst hksil
  refine ⟨_, exec_keySample_running levels s hl, ?_⟩
  have hqueue := sampleKeys_queue levels { s with pins := { s.pins with keys := levels } }
  simp only [noteHorn_frame]
  generalize (sampleKtst levels.ktst _).queue = q at hqueue ⊢
  have hq : q = queueAfterPress ksil [.silence] (queueAfterPress krst (requestsFor .resetReq isCleared s)
      (queueAfterPress kack (requestsFor .ackReq unacked s) s.queue)) := by
    rw [hqueue, ← hkack, ← hkrst, ← hksil]
    rfl
  refine ⟨hq, ?_, ?_, ?_⟩
  · rintro rfl rfl rfl
    exact press_queue (fun _ _ => rfl) unacked s hq
  · rintro rfl rfl rfl
    exact press_queue (fun _ _ => rfl) isCleared s hq
  · have hkeys : queueKeys s.queue <+: queueKeys q := hq ▸ (queueKeys_queueAfterPress _ _ _).trans
      ((queueKeys_queueAfterPress _ _ _).trans (queueKeys_queueAfterPress _ _ _))
    have htake := List.prefix_iff_eq_take.mp hkeys
    unfold queueKeys at htake
    rw [List.length_map] at htake
    rw [List.map_take]
    exact htake.symm

/-- Outside local publication mode a press of KSIL leaves the Mirror Table as it is (R120). -/
theorem sampleKsil_mirror_of_normal {level : Bool} {s : State} (h : localMode s = false) :
    (sampleKsil level s).mirror = s.mirror := by
  rw [sampleKsil_eq]
  split
  · unfold pressKsil
    rw [if_neg]
    exact ne_true_of_eq_false h
  · rfl

/-- An offer is in the queue after it, or the queue is full (R123, R124). -/
theorem offer_taken_or_full (q : RequestQueue) (hq : q.refused = false) (r : Request) :
    (∃ e ∈ (offer q r).entries, e.request = r) ∧ (offer q r).refused = false ∨
      16 ≤ (offer q r).entries.length ∧ (offer q r).refused = true := by
  cases h : (offer q r).refused with
  | false => exact .inl ⟨exists_mem_offer h, rfl⟩
  | true => exact .inr ⟨(of_offer_refused hq h).1.trans length_le_offer, rfl⟩

/-- Without a press of KACK or KRST their samples write the Key Scanner only. -/
theorem sampleKrst_of_none {levels : KeyPins} {s : State} (hkack : presses levels.kack s.keys.kack = false)
    (hkrst : presses levels.krst s.keys.krst = false) :
    sampleKrst levels.krst (sampleKack levels.kack s) =
      { s with keys := { s.keys with kack := keyAfter levels.kack s.keys.kack, krst := keyAfter levels.krst s.keys.krst } } := by
  rw [sampleKack_eq, hkack, keyPass_none, sampleKrst_eq, hkrst, keyPass_none]

/-- Settles O16. -/
theorem ksilOffersASilence : Obligations.KsilOffersASilence := by
  intro levels s hl hksil
  have hqueue := sampleKeys_queue levels { s with pins := { s.pins with keys := levels } }
  have hrows := sampleKack_remote { s with pins := { s.pins with keys := levels } } levels.kack
  have hmode : localMode (sampleKrst levels.krst (sampleKack levels.kack { s with pins := { s.pins with keys := levels } })) =
      localMode s := localMode_congr (by simp) (by simp)
  have hsilence : presses levels.ksil (sampleKrst levels.krst
      (sampleKack levels.kack { s with pins := { s.pins with keys := levels } })).keys.ksil = true := by
    rw [sampleKrst_keys, sampleKack_keys, ← hksil]
  have hmirror := sampleKsil_mirror levels.ksil
    (sampleKrst levels.krst (sampleKack levels.kack { s with pins := { s.pins with keys := levels } }))
  rw [hsilence, hmode] at hmirror
  obtain ⟨hregister, hhorn, hremote⟩ := hmirror
  refine ⟨_, exec_keySample_running levels s hl, ?_, fun hnormal => ?_, fun hlocal => ⟨fun p i => ?_, fun i => ?_⟩,
    fun hkack hkrst => ⟨?_, fun hnormal => ?_, ?_, ?_⟩⟩
  · simp only [noteHorn_frame]
    rw [hqueue, hksil]
    exact offer_taken_or_full _ rfl .silence
  · simp only [noteHorn_frame, sampleKtst_frame]
    rw [sampleKsil_mirror_of_normal (hmode.trans hnormal), sampleKrst_remote, hrows]
  · simp only [noteHorn_frame, sampleKtst_frame]
    rw [hremote, if_pos ⟨rfl, hlocal⟩, sampleKrst_remote, hrows]
  · simp only [noteHorn_frame, sampleKtst_frame]
    rw [hhorn, hlocal]
    simp
  · simp only [noteHorn_frame]
    rw [hqueue, hkack, hkrst, hksil]
    rfl
  · simp only [noteHorn_frame, sampleKtst_frame]
    rw [sampleKsil_mirror_of_normal (hmode.trans hnormal), sampleKrst_of_none (s := { s with pins := { s.pins with keys := levels } }) hkack hkrst]
  · simp only [noteHorn_frame, sampleKtst_frame]
    rw [hregister, sampleKrst_of_none (s := { s with pins := { s.pins with keys := levels } }) hkack hkrst]
  · rw [sampleKrst_of_none (s := { s with pins := { s.pins with keys := levels } }) hkack hkrst]
    apply state_eq_of_fields
    case panel => exact noteHorn_panel_of_panel (by simp)
    all_goals simp

end Sys2Proof.Machine
end

section
/-! PROOFS. Frames and the configuration image: what is written is read back (O9, O32). -/

namespace Sys2Proof.Machine

open Sys2Proof.Safety

/-! ### Fields and what reads them back -/

@[simp] theorem length_toBits (w n : Nat) : (toBits w n).length = w := by
  induction w with
  | zero => rfl
  | succ w ih => rw [toBits, List.length_cons, ih]

theorem foldl_toBits (w n a : Nat) :
    (toBits w n).foldl (fun n b => 2 * n + b.toNat) a = a * 2 ^ w + n % 2 ^ w := by
  induction w generalizing a with
  | zero => simp [toBits, Nat.mod_one]
  | succ w ih =>
    rw [toBits, List.foldl_cons, ih, Nat.toNat_testBit, Nat.mod_pow_succ, Nat.pow_succ]
    ring

/-- A field gives back the number that it was written from. -/
theorem ofBits_toBits {w n : Nat} (h : n < 2 ^ w) : ofBits (toBits w n) = n := by
  rw [ofBits, foldl_toBits, Nat.zero_mul, Nat.zero_add, Nat.mod_eq_of_lt h]

theorem readField_toBits {w n : Nat} (h : n < 2 ^ w) (rest : List Bool) :
    readField w (toBits w n ++ rest) = .done n rest := by
  rw [readField, if_pos (by simp), List.take_left' (length_toBits w n), List.drop_left' (length_toBits w n), ofBits_toBits h]

@[simp] theorem readField_fin (n : Fin 16) (rest : List Bool) : readField 4 (toBits 4 n ++ rest) = .done n.val rest :=
  readField_toBits n.isLt rest

@[simp] theorem readField_byte (v : BitVec 8) (rest : List Bool) : readField 8 (toBits 8 v.toNat ++ rest) = .done v.toNat rest :=
  readField_toBits v.isLt rest

@[simp] theorem readField_word (v : BitVec 16) (rest : List Bool) :
    readField 16 (toBits 16 v.toNat ++ rest) = .done v.toNat rest :=
  readField_toBits v.isLt rest

@[simp] theorem readField_bit (b : Bool) (rest : List Bool) : readField 1 (b :: rest) = .done b.toNat rest := by
  cases b <;> simp [readField, ofBits]

@[simp] theorem Parse.done_andThen {α β : Type} (a : α) (rest : List Bool) (next : α → List Bool → Parse β) :
    (Parse.done a rest).andThen next = next a rest := rfl

@[simp] theorem readField_state (p : PointState) (rest : List Bool) :
    readField 3 (toBits 3 (stateCode p) ++ rest) = .done (stateCode p) rest :=
  readField_toBits (by cases p <;> decide) rest

@[simp] theorem readField_group (g : FirstOutGroup) (rest : List Bool) :
    readField 2 (toBits 2 (groupCode g) ++ rest) = .done (groupCode g) rest :=
  readField_toBits (by cases g <;> decide) rest

@[simp] theorem readField_kind (k : FrameKind) (rest : List Bool) :
    readField 4 (toBits 4 (kindCode k) ++ rest) = .done (kindCode k) rest :=
  readField_toBits (by cases k <;> decide) rest

@[simp] theorem stateOfCode_stateCode (p : PointState) : stateOfCode (stateCode p) = some p := by cases p <;> rfl

@[simp] theorem groupOfCode_groupCode (g : FirstOutGroup) : groupOfCode (groupCode g) = g := by cases g <;> rfl

@[simp] theorem kindOfCode_kindCode (k : FrameKind) : kindOfCode (kindCode k) = some k := by cases k <;> rfl

@[simp] theorem ofNat_val (i : Fin 16) : Fin.ofNat 16 i.val = i := Fin.ext (Nat.mod_eq_of_lt i.isLt)

/-- The status field gives back the flags. -/
theorem readField_flags (f : StatusFlags) (rest : List Bool) :
    ∃ n, readField 4 (flagBits f ++ rest) = .done n rest ∧ flagsOfCode n = f := by
  refine ⟨ofBits (flagBits f), ?_, ?_⟩
  · rfl
  · obtain ⟨a, b, c, d⟩ := f
    revert a b c d
    decide

/-! ### Bodies -/

/-- An entry that is in range after those with the indices `seen` (Table 26). -/
theorem readEntry_entryBits {seen : List PointIndex} {e : AnnounceEntry} (hseen : e.index ∉ seen)
    (hmark : (!(e.mark && e.group == .g0)) = true) (rest : List Bool) :
    readEntry seen (entryBits e ++ rest) = .done e rest := by
  have hmark' : ¬(e.mark.toNat = 1 ∧ e.group = .g0) := by
    rintro ⟨h, hgroup⟩
    cases hm : e.mark <;> simp [hm, hgroup] at hmark h
  have hbool : (e.mark.toNat == 1) = e.mark := by cases e.mark <;> rfl
  simp only [readEntry, entryBits, List.append_assoc, List.cons_append, List.nil_append, readField_fin, Parse.done_andThen, ofNat_val,
    if_neg hseen, readField_state, stateOfCode_stateCode, readField_group, readField_bit, groupOfCode_groupCode,
    if_neg hmark', readField_byte, hbool, BitVec.ofNat_toNat, BitVec.setWidth_eq]

theorem readEntries_flatMap {es : List AnnounceEntry} {seen : List PointIndex} (hnodup : (es.map (·.index)).Nodup)
    (hseen : ∀ e ∈ es, e.index ∉ seen) (hmark : ∀ e ∈ es, (!(e.mark && e.group == .g0)) = true) (rest : List Bool) :
    readEntries es.length seen (es.flatMap entryBits ++ rest) = .done es rest := by
  induction es generalizing seen with
  | nil => rfl
  | cons e es ih =>
    rw [List.map_cons, List.nodup_cons] at hnodup
    obtain ⟨he, hnodup⟩ := hnodup
    have hrest : ∀ a ∈ es, a.index ∉ e.index :: seen := by
      intro a ha
      rw [List.mem_cons, not_or]
      exact ⟨fun heq => he (heq ▸ List.mem_map_of_mem ha), hseen a (List.mem_cons_of_mem e ha)⟩
    rw [List.length_cons, readEntries, List.flatMap_cons, List.append_assoc,
      readEntry_entryBits (hseen e List.mem_cons_self) (hmark e List.mem_cons_self), Parse.done_andThen,
      ih hnodup hrest fun a ha => hmark a (List.mem_cons_of_mem e ha)]
    rfl

theorem readPairs_flatMap {ps : List ReqPair} {last : Option PointIndex} (hrising : (ps.map (·.index)).Pairwise (· < ·))
    (hlast : ∀ p ∈ ps, ∀ l ∈ last, l < p.index) (rest : List Bool) :
    readPairs ps.length last (ps.flatMap pairBits ++ rest) = .done ps rest := by
  induction ps generalizing last with
  | nil => rfl
  | cons p ps ih =>
    rw [List.map_cons, List.pairwise_cons] at hrising
    obtain ⟨hp, hrising⟩ := hrising
    have hfirst : ¬(last.any fun l => decide (p.index ≤ l)) = true := by
      cases last with
      | none => exact Bool.false_ne_true
      | some l => simpa using hlast p List.mem_cons_self l rfl
    have hrest : ∀ q ∈ ps, ∀ l ∈ some p.index, l < q.index := by
      rintro q hq l hl
      obtain rfl := Option.some.inj hl
      exact hp _ (List.mem_map_of_mem hq)
    simp only [List.length_cons, readPairs, List.flatMap_cons, pairBits, List.append_assoc, readField_fin, Parse.done_andThen,
      ofNat_val, if_neg hfirst, readField_byte]
    rw [ih hrising hrest, Parse.done_andThen, BitVec.ofNat_toNat, BitVec.setWidth_eq]

theorem readCount_toBits {n : Nat} (h : 1 ≤ n ∧ n ≤ 16) (rest : List Bool) : readCount (toBits 5 n ++ rest) = .done n rest := by
  rw [readCount, readField_toBits (by omega), Parse.done_andThen, if_pos h]

theorem readRequest_bits {ps : List ReqPair} (h : pairsInRange ps = true) (t : StationNo) (rest : List Bool) :
    readRequest (toBits 4 t ++ toBits 5 ps.length ++ ps.flatMap pairBits ++ rest) = .done (t, ps) rest := by
  simp only [pairsInRange, Bool.and_eq_true, decide_eq_true_eq] at h
  obtain ⟨hcount, hrising⟩ := h
  simp only [readRequest, List.append_assoc, readField_fin, Parse.done_andThen, readCount_toBits hcount, ofNat_val]
  rw [readPairs_flatMap hrising (by simp)]
  rfl

theorem readBody_bodyBits {b : Body} (h : bodyInRange b = true) (rest : List Bool) :
    readBody (bodyKind b) (bodyBits b ++ rest) = .done b rest := by
  cases b with
  | presence m | hello m =>
    simp only [bodyKind, readBody, bodyBits, readField_word, Parse.done_andThen, BitVec.ofNat_toNat, BitVec.setWidth_eq]
  | announce es =>
    simp only [bodyInRange, entriesInRange, Bool.and_eq_true, decide_eq_true_eq, List.all_eq_true] at h
    obtain ⟨⟨hcount, hnodup⟩, hmark⟩ := h
    simp only [bodyKind, readBody, bodyBits, List.append_assoc, readCount_toBits hcount, Parse.done_andThen]
    rw [readEntries_flatMap hnodup (by simp) hmark]
    rfl
  | ackReq t ps | resetReq t ps =>
    simp only [bodyKind, readBody, bodyBits]
    rw [readRequest_bits h]
    rfl
  | silence | depart => rfl
  | refreshReq t => simp only [bodyKind, readBody, bodyBits, readField_fin, Parse.done_andThen, ofNat_val]

/-! ### Frames (O32) -/

theorem readCovered_frameCovered {f : Frame} (h : bodyInRange f.body = true) (rest : List Bool) :
    readCovered (frameCovered f ++ rest) = .done f rest := by
  obtain ⟨n, hflags, hcode⟩ := readField_flags f.header.status (bodyBits f.body ++ rest)
  simp only [readCovered, frameCovered, List.append_assoc, readField_fin, Parse.done_andThen, readField_kind,
    kindOfCode_kindCode, readField_byte, hflags, readBody_bodyBits h, ofNat_val, hcode, BitVec.ofNat_toNat,
    BitVec.setWidth_eq]

theorem readFrame_frameBits {f : Frame} (h : bodyInRange f.body = true) (rest : List Bool) :
    readFrame (frameBits f ++ rest) = .done f rest := by
  rw [readFrame, frameBits, List.append_assoc, readCovered_frameCovered h, Parse.done_andThen, readField_word,
    Parse.done_andThen, List.length_append, Nat.add_sub_cancel, List.take_left' rfl, if_pos rfl]

theorem decodeHalves_flatMap (bits rest : List Bool) :
    decodeHalves (bits.flatMap bitHalves ++ rest) = (bits ++ (decodeHalves rest).1, (decodeHalves rest).2) := by
  induction bits with
  | nil => rfl
  | cons b bits ih =>
    have hhalves : (b :: bits).flatMap bitHalves ++ rest = b :: (!b) :: (bits.flatMap bitHalves ++ rest) := rfl
    rw [hhalves, decodeHalves]
    cases b <;> simp [symbolOf, ih]

theorem length_flatMap_bitHalves (bits : List Bool) : (bits.flatMap bitHalves).length = 2 * bits.length := by
  induction bits with
  | nil => rfl
  | cons b bits ih => rw [List.flatMap_cons, List.length_append, ih, List.length_cons, bitHalves]; simp; omega

theorem length_flatMap_of {α : Type} {f : α → List Bool} {k : Nat} (h : ∀ a, (f a).length = k) (l : List α) :
    (l.flatMap f).length = k * l.length := by
  induction l with
  | nil => rfl
  | cons a l ih => rw [List.flatMap_cons, List.length_append, ih, h, List.length_cons]; ring

theorem length_entryBits (e : AnnounceEntry) : (entryBits e).length = 18 := by simp [entryBits]

theorem length_pairBits (p : ReqPair) : (pairBits p).length = 12 := by simp [pairBits]

/-- Header, body and check take the bits of Table 25 less the four of the start mark. -/
theorem length_frameBits (f : Frame) : (frameBits f).length + 4 = frameLength f.body := by
  simp only [frameBits, frameCovered, flagBits, List.length_append, length_toBits, List.length_cons, List.length_nil]
  cases f.body <;>
    simp only [bodyBits, frameLength, List.length_append, length_toBits, List.length_nil,
      length_flatMap_of length_entryBits, length_flatMap_of length_pairBits] <;> omega

theorem length_frameHalves (f : Frame) : (frameHalves f).length = 2 * frameLength f.body := by
  rw [frameHalves, List.length_append, length_flatMap_bitHalves, ← length_frameBits]
  simp [startMark]
  omega

/-- Settles O32: each field is read back by the reader of its width, and the check is that of the bits before it. -/
theorem frameRoundTrip : Obligations.FrameRoundTrip := by
  intro f rest h
  refine ⟨length_frameHalves f, rfl, ?_⟩
  have hhalves : (frameHalves f).drop 8 = (frameBits f).flatMap bitHalves := rfl
  rw [hhalves, receiveHalves, decodeHalves_flatMap, readFrame_frameBits h]

/-! ### The configuration image (O9) -/

theorem ofBits_toBits_mod (w n : Nat) : ofBits (toBits w n) = n % 2 ^ w := by
  rw [ofBits, foldl_toBits, Nat.zero_mul, Nat.zero_add]

theorem drop_flatMap_toBits (l : List Nat) (k : Nat) :
    (l.flatMap (toBits 8)).drop (8 * k) = (l.drop k).flatMap (toBits 8) := by
  induction k generalizing l with
  | zero => rfl
  | succ k ih =>
    cases l with
    | nil => simp
    | cons a l =>
      rw [List.flatMap_cons, List.drop_succ_cons, ← ih, Nat.mul_succ, Nat.add_comm, ← List.drop_drop,
        List.drop_left' (length_toBits 8 a)]

/-- The bytes of an image are those that it was written from. -/
theorem imageByte_flatMap {l : List Nat} {k n : Nat} (h : l[k]? = some n) : imageByte (l.flatMap (toBits 8)) k = n % 256 := by
  obtain ⟨hk, hn⟩ := List.getElem?_eq_some_iff.mp h
  rw [imageByte, drop_flatMap_toBits, List.drop_eq_getElem_cons hk, hn, List.flatMap_cons,
    List.take_left' (length_toBits 8 n), ofBits_toBits_mod]
  norm_num

theorem toBits_add (a b n : Nat) : toBits (a + b) n = toBits a (n / 2 ^ b) ++ toBits b n := by
  induction a with
  | zero => rw [Nat.zero_add]; rfl
  | succ a ih => rw [Nat.succ_add, toBits, ih, toBits, List.cons_append, Nat.testBit_div_two_pow]

/-- Byte 1 of the image that gives these settings (Table 84). -/
def timingByte (c : Config.Settings) : Nat :=
  (match c.tone with | .continuous => 0 | .warble => 4) + codeOfPeriod c.period

/-- The check over bytes 0 to 17 of the image that gives these settings. -/
def imageCheck (c : Config.Settings) : Nat := (checkOf (imageBody c)).toNat

/-- The twenty bytes of the image that gives these settings. -/
def imageBytes (c : Config.Settings) : List Nat :=
  0x5A :: timingByte c :: (c.points.toList.map byteOfPoint ++ [imageCheck c / 256, imageCheck c])

section Image

variable (c : Config.Settings)

theorem imageOf_eq : imageOf c = (imageBytes c).flatMap (toBits 8) := by
  have hcheck : toBits 16 (imageCheck c) = toBits 8 (imageCheck c / 256) ++ toBits 8 (imageCheck c) := toBits_add 8 8 _
  have hpoints : (c.points.toList.map byteOfPoint).flatMap (toBits 8) =
      c.points.toList.flatMap fun p => toBits 8 (byteOfPoint p) := List.flatMap_map ..
  simp only [imageBytes, List.flatMap_cons, List.flatMap_append, List.flatMap_nil, hpoints, List.append_nil, ← hcheck]
  simp only [imageOf, imageBody, timingByte, imageCheck, List.append_assoc] <;> rfl

theorem length_imageBody : (imageBody c).length = 144 := by
  simp [imageBody, length_flatMap_of fun p => length_toBits 8 (byteOfPoint p)]

theorem length_imageOf : (imageOf c).length = 160 := by simp [imageOf, length_imageBody]

theorem take_imageOf : (imageOf c).take 144 = imageBody c := by
  rw [imageOf, List.take_left' (length_imageBody c)]

theorem imageByte_zero : imageByte (imageOf c) 0 = 0x5A := by
  rw [imageOf_eq, imageByte_flatMap (n := 0x5A) rfl]

theorem imageByte_one : imageByte (imageOf c) 1 = timingByte c := by
  rw [imageOf_eq, imageByte_flatMap (n := timingByte c) rfl, timingByte]
  cases c.tone <;> cases c.period <;> rfl

theorem imageByte_point (i : Fin 16) : imageByte (imageOf c) (2 + i.val) = byteOfPoint c.points[i] % 256 := by
  rw [imageOf_eq, imageByte_flatMap]
  rw [imageBytes, Nat.add_comm, List.getElem?_cons_succ, List.getElem?_cons_succ, List.getElem?_append_left (by simp)]
  simp

theorem imageByte_check :
    256 * imageByte (imageOf c) 18 + imageByte (imageOf c) 19 = (checkOf (imageBody c)).toNat := by
  have hhigh : (imageBytes c)[18]? = some (imageCheck c / 256) := by simp [imageBytes]
  have hlow : (imageBytes c)[19]? = some (imageCheck c) := by simp [imageBytes]
  have hlt : imageCheck c < 65536 := (checkOf (imageBody c)).isLt
  rw [imageOf_eq, imageByte_flatMap hhigh, imageByte_flatMap hlow, ← imageCheck]
  omega

end Image

/-- A point's byte is in order and gives its settings back (Table 84). -/
theorem pointOfByte_byteOfPoint (p : Config.PointSettings) :
    pointOfByte (byteOfPoint p % 256) = p ∧ pointByteOk (byteOfPoint p % 256) = true := by
  obtain ⟨enabled, polarity, mode, cls, group⟩ := p
  cases enabled <;> cases polarity <;> cases mode <;> cases cls <;> cases group <;> exact ⟨rfl, rfl⟩

/-- Byte 1 gives the presence period and the tone back, and its upper bits are 0 (Table 84). -/
theorem timingByte_fields (c : Config.Settings) :
    timingByte c / 8 = 0 ∧ periodOfCode (timingByte c % 4) = c.period ∧
      (if (timingByte c).testBit 2 then Config.HornTone.warble else .continuous) = c.tone := by
  unfold timingByte
  cases c.tone <;> cases c.period <;> exact ⟨rfl, rfl, rfl⟩

/-- Settles O9: the image is twenty bytes, and each is read back as it was written. -/
theorem imageRoundTrip : Obligations.ImageRoundTrip := by
  intro c
  obtain ⟨hupper, hperiod, htone⟩ := timingByte_fields c
  refine ⟨length_imageOf c, ?_, ?_⟩
  · rw [take_imageOf, imageAccepted, imageByte_zero, imageByte_one, imageByte_check, hupper]
    simp only [beq_self_eq_true, Bool.true_and, List.all_eq_true, List.mem_range]
    intro i hi
    rw [imageByte_point c ⟨i, hi⟩]
    exact (pointOfByte_byteOfPoint _).2
  · rw [imageSettings, imageByte_one, hperiod, htone]
    have hpoints : (Vector.ofFn fun i : Fin 16 => pointOfByte (imageByte (imageOf c) (2 + i.val))) = c.points := by
      ext i hi
      rw [Vector.getElem_ofFn, imageByte_point c ⟨i, hi⟩, (pointOfByte_byteOfPoint _).1]
      rfl
    rw [hpoints]

end Sys2Proof.Machine
end

section
/-! PROOFS. Received frames of a peer (O18 to O20, O23, O25, O26). -/

namespace Sys2Proof.Machine

open Sys2Proof.Safety

/-! ### The line at the end of a frame -/

/-- The commands of the eight kinds end one frame (Table 27). -/
theorem exec_receiveCommand (f : Frame) (s : State) : exec (receiveCommand f) s = .next (takeFrame f s) := by
  obtain ⟨h, b⟩ := f
  cases b <;> rfl

/-- A frame ends with the two halves of the last bit of its check. -/
theorem frameHalves_drop_eq (f : Frame) : ∃ halves, (frameHalves f).drop 8 = halves ++ bitHalves (lastCheckBit f) := by
  have hlast : toBits 16 (checkOf (frameCovered f)).toNat =
      toBits 15 ((checkOf (frameCovered f)).toNat / 2 ^ 1) ++ [lastCheckBit f] := toBits_add 15 1 _
  have hdrop : (frameHalves f).drop 8 = (frameBits f).flatMap bitHalves := rfl
  refine ⟨(frameCovered f ++ toBits 15 ((checkOf (frameCovered f)).toNat / 2 ^ 1)).flatMap bitHalves, ?_⟩
  rw [hdrop, frameBits, hlast, ← List.append_assoc, List.flatMap_append]
  simp

theorem hear_quietCount {l : LineInterface} (h : l.status = .busy) (carrier : Bool) :
    (l.hear carrier).quietCount = quietHeld l.quietCount carrier := by
  simp [LineInterface.hear, h]

theorem quietHeld_carrier (count : Fin 25) : quietHeld count true = 0 := rfl

/-- One half without carrier stands at the end of a frame whose last bit is 1, and none if it is 0. -/
theorem hearUpTo_frame_quietCount (f : Frame) {l : LineInterface} (hbusy : l.status = .busy) (hstart : l.decided = 8) :
    (l.hearUpTo (frameHalves f)).quietCount = if lastCheckBit f = true then 1 else 0 := by
  obtain ⟨halves, hhalves⟩ := frameHalves_drop_eq f
  have hstatus : (halves.foldl LineInterface.hear l).status = .busy := by simpa using hbusy
  simp only [LineInterface.hearUpTo, hstart, hhalves, List.foldl_append, bitHalves, List.foldl_cons, List.foldl_nil]
  rw [hear_quietCount (by simpa using hstatus), hear_quietCount hstatus]
  cases lastCheckBit f <;> rfl

/-- The jam count has every BT of a frame after its start mark. -/
theorem hearUpTo_frame_jamCount (f : Frame) {l : LineInterface} (hbusy : l.status = .busy) (hstart : l.decided = 8)
    (hroom : l.jamCount.val + (frameLength f.body - 4) < 2048) :
    (l.hearUpTo (frameHalves f)).jamCount.val = l.jamCount.val + (frameLength f.body - 4) := by
  have hne : l.jamCount ≠ 2048 := by
    rintro h
    rw [h] at hroom
    simp at hroom
  have hlength : ((frameHalves f).drop 8).length = 2 * frameLength f.body - 8 := by
    rw [List.length_drop, length_frameHalves]
  simp only [LineInterface.hearUpTo, hstart]
  rw [foldl_hear_jamCount _ _ hbusy, if_neg hne, hlength, hstart]
  omega

/-- The line at the end of a frame that ends in FRAME (R28, R29, R38). -/
theorem takeFrame_heardLine {f : Frame} {s : State} (h : s.line.receiver = .frame) (hbelow : CountBelow s.line) :
    (takeFrame f s).line = { heardLine ((frameHalves f).drop s.line.decided) s.line with receiver := .wait } := by
  rw [(takeFrame_line h).1, hearUpTo_eq _ _ hbelow]

/-! ### A valid frame of a peer (O18) -/

theorem takePeerFrame_peers (f : Frame) (s : State) :
    (takePeerFrame f s).peers = s.peers.set f.header.sender (entryAfter (bodyKind f.body) f.header) := by
  simp [takePeerFrame, peerHeard_peers]

theorem takePeerFrame_access (f : Frame) (s : State) :
    (takePeerFrame f s).access = { s.access with rotation := f.header.sender + 1 } := by
  simp [takePeerFrame, rotateTo]

theorem takePeerFrame_time_stands (f : Frame) (s : State) :
    (takePeerFrame f s).time.elapsed = none ∧ (takePeerFrame f s).time.tickCount = s.time.tickCount := by
  simp only [takePeerFrame, noteHorn_frame, adopt]
  split <;> simp_all

theorem takePeerFrame_panel (f : Frame) (s : State) :
    (takePeerFrame f s).panel = { s.panel with hornCut := hornCutAfter s (takePeerFrame f s) } :=
  noteHorn_panel_of_panel (by simp)

/-- A joined station that agrees with the Presence Table is in the state of the presence rule (R65). -/
theorem own_of_soloAgrees {own : Membership} {present : Bool} (h : SoloAgrees own present)
    (hjoined : own = .group ∨ own = .solo) : own = if present = true then .group else .solo := by
  obtain ⟨hsolo, hgroup⟩ := h
  rcases hjoined with rfl | rfl
  · rw [if_pos (hgroup rfl)]
  · rw [hsolo rfl, if_neg Bool.false_ne_true]

theorem anyPresent_iff (s : State) : anyPresent s = true ↔ ∃ q : Fin 16, q ≠ ownNumber s ∧ s.peers[q].state = .present := by
  simp [anyPresent, isPresent]

/-- GROUP and SOLO follow the Presence Table at any frame of a peer, and no other field of the Membership Controller changes
(R65). -/
theorem peerHeard_member_eq {h : Header} {kind : FrameKind} {s t : State} (hs : SoloCoherent s)
    (hnumber : ownNumber t = ownNumber s) (hpeers : t.peers = s.peers.set h.sender (entryAfter kind h)) :
    (peerHeard h kind s).member =
      { s.member with
        own := if s.member.own = .group ∨ s.member.own = .solo then (if anyPresent t = true then .group else .solo)
          else s.member.own } := by
  have hfollows := peerHeard_soloAgrees (h := h) (kind := kind) (t := t) hs hnumber hpeers
  by_cases hjoined : s.member.own = .group ∨ s.member.own = .solo
  · rw [if_pos hjoined]
    rw [peerHeard_member] at hfollows ⊢
    split at hfollows
    · next h =>
      rw [if_pos h]
      rw [← own_of_soloAgrees hfollows (presenceRule_joined _)]
    · next h =>
      rw [if_neg h]
      rw [← own_of_soloAgrees hfollows hjoined]
  · rw [if_neg hjoined, peerHeard_member, if_neg fun h => hjoined h.2]

/-- The entry of a sender after its frame, in the words of the statements (R73, R74, R77). -/
theorem entryAfter_eq (kind : FrameKind) (h : Header) :
    entryAfter kind h =
      { state := if kind = .depart then .departed else .present, lastSequence := some h.sequence, flags := h.status
        silence := { running := kind != .depart, ticks := 0 } } := by
  unfold entryAfter
  by_cases hkind : kind = .depart
  · rw [if_pos hkind, hkind]; rfl
  · rw [if_neg hkind, if_neg hkind, bne_iff_ne.mpr hkind]; rfl

/-- A frame asks for a REFRESH-REQ exactly in these cases (Table 45). -/
theorem wantsRefresh_iff (e : PeerEntry) {kind : FrameKind} (hkind : kind ≠ .depart) (sequence : SeqNo) :
    wantsRefresh e kind sequence = true ↔
      e.state = .present ∧ e.lastSequence.map (· + 1) ≠ some sequence ∨ e.state ≠ .present ∧ kind ≠ .hello := by
  unfold wantsRefresh
  rw [if_neg hkind]
  by_cases hpresent : e.state = .present <;> simp [hpresent]

/-- Settles O18. -/
theorem peerFrameUpdatesThePeerEntry : Obligations.PeerFrameUpdatesThePeerEntry := by
  intro f s hears hsolo
  have hline := (takeFrame_line (f := f) hears.1).1
  have htake := takeFrame_of_hears hears
  have hpeers : (takeFrame f s).peers = s.peers.set f.header.sender (entryAfter (bodyKind f.body) f.header) := by
    rw [htake, takePeerFrame_peers]
    simp
  have hnumber : ownNumber (takeFrame f s) = ownNumber s := by simp [ownNumber]
  refine ⟨takeFrame f s, exec_receiveCommand f s, ?_, fun q hq => ?_, ?_, takeFrame_heardLine hears.1, fun hbusy hstart => ?_,
    ?_, ?_, ?_, ?_, fun hkind => ?_, ?_⟩
  · rw [hpeers, get_set_fin, if_pos rfl, entryAfter_eq]
  · rw [hpeers, get_set_fin, if_neg hq]
  · rw [hline]
  · rw [hline]
    exact ⟨hearUpTo_frame_quietCount f hbusy hstart, hearUpTo_frame_jamCount f hbusy hstart⟩
  · rw [htake, takePeerFrame_access]
    simp
  · rw [htake]
    exact (takePeerFrame_time_stands f _).1
  · rw [htake]
    exact (takePeerFrame_time_stands f _).2
  · have hmember : (takeFrame f s).member = (peerHeard f.header (bodyKind f.body) s).member := by
      rw [htake, takePeerFrame_member, peerHeard_member, peerHeard_member]
      rfl
    rw [hmember, peerHeard_member_eq hsolo hnumber hpeers]
    simp only [anyPresent_iff, hnumber]
  · have hqueue : (takeFrame f s).queue =
        if wantsRefresh s.peers[f.header.sender] (bodyKind f.body) f.header.sequence = true then
          offer s.queue (.refreshReq f.header.sender) else s.queue := by
      rw [htake, takePeerFrame_queue, peerHeard_queue, if_neg hkind]
      simp only [rotateTo_frame, hearFrame_frame]
    rw [hqueue]
    refine ⟨fun hstands => if_neg fun hasks => ?_, fun hasks => if_pos ((wantsRefresh_iff _ hkind _).mpr hasks)⟩
    rcases (wantsRefresh_iff _ hkind _).mp hasks with ⟨hpresent, hgap⟩ | ⟨habsent, hhello⟩
    · rcases hstands with ⟨-, hnext⟩ | ⟨hnot, -⟩
      · exact hgap hnext
      · exact hnot hpresent
    · rcases hstands with ⟨hpresent, -⟩ | ⟨-, his⟩
      · exact habsent hpresent
      · exact hhello his
  · rw [htake]
    apply state_eq_of_fields
    case panel => 
      rw [takePeerFrame_panel]
      rfl
    all_goals simp

/-! ### The reference station and the adoption (O19) -/

/-- The first point at which a test holds, in rising index. -/
theorem find_finRange_eq_some_iff (test : Fin 16 → Bool) (p : Fin 16) :
    (List.finRange 16).find? test = some p ↔ test p = true ∧ ∀ q < p, test q = false := by
  rw [List.find?_eq_some_iff_getElem]
  simp only [List.getElem_finRange, Bool.not_eq_true']
  refine and_congr_right fun _ => ⟨?_, fun h => ⟨p.val, by simp, rfl, fun j hj => h ⟨j, by omega⟩ hj⟩⟩
  rintro ⟨i, hi, rfl, hbefore⟩ q hq
  exact hbefore q.val hq

/-- A peer is the reference station exactly if it is PRESENT, numbered below the own station, and no PRESENT peer is numbered
lower (R140). -/
theorem reference_eq_peer_iff {s : State} {p : StationNo} (hp : p ≠ ownNumber s) :
    reference s = p ↔ isPresent s p = true ∧ p < ownNumber s ∧ ∀ q < p, isPresent s q = false := by
  have hfind : reference s = p ↔
      ((List.finRange 16).find? fun p => p == ownNumber s || isPresent s p) = some p := by
    unfold reference
    cases (List.finRange 16).find? fun p => p == ownNumber s || isPresent s p with
    | none => simpa using hp.symm
    | some q => simp
  rw [hfind, find_finRange_eq_some_iff, beq_false_of_ne hp, Bool.false_or]
  refine and_congr_right fun _ => ⟨fun h => ⟨?_, fun q hq => ?_⟩, fun h q hq => ?_⟩
  · by_contra hle
    have hlt : ownNumber s < p := lt_of_le_of_ne (not_lt.mp hle) (Ne.symm hp)
    simpa using h _ hlt
  · exact (Bool.or_eq_false_iff.mp (h q hq)).2
  · rw [h.2 q hq, beq_false_of_ne (ne_of_lt (hq.trans h.1))]
    rfl

theorem reference_congr {s t : State} (hpresent : isPresent t = isPresent s) (hnumber : ownNumber t = ownNumber s) :
    reference t = reference s := by
  unfold reference
  rw [hpresent, hnumber]

/-- The wheel after a frame of a peer with the elapsed count running: adopted exactly if the sender is the reference as the
Presence Table stands after the frame (R143). -/
theorem takePeerFrame_wheel (f : Frame) {s : State} {n : Nat} (h : s.time.elapsed = some n) :
    (takePeerFrame f s).time.wheel =
      if reference (takePeerFrame f s) = f.header.sender then adoptedWheel (frameMeetsTick s) f.header n
      else s.time.wheel := by
  have hreference : reference (takePeerFrame f s) =
      reference (takeBody f.header.sender f.body (peerHeard f.header (bodyKind f.body) (rotateTo f.header.sender s))) :=
    reference_congr (isPresent_congr (by simp [takePeerFrame]) (by simp [takePeerFrame, ownNumber]))
      (by simp [takePeerFrame, ownNumber])
  rw [hreference]
  simp only [takePeerFrame, noteHorn_frame]
  rw [adopt_time _ _ n (by simpa using h)]
  simp [frameMeetsTick]

theorem adoptedWheel_val (together : Bool) (h : Header) (n : Nat) :
    (adoptedWheel together h n).val =
      (h.phaseStep.val * 2048 + h.phaseFine.toNat * 8 + if together then n - 1 else n) % 32768 := rfl

theorem step_idle {s : State} (h : s.pending = []) : step s = .next (tick s) := by
  simp only [step, h]

/-- A tick outside reset: the counts, the line clock and the commands that fall due. -/
theorem tick_running {s : State} (h : inReset s = false) :
    tick s =
      { tickCounters (tickLine s) with
        pending := dueTimers (tickCounters (tickLine s)) ++ dueLine s ++ dueLoading (tickCounters (tickLine s)) ++
          dueInstants (tickCounters (tickLine s)) } := if_neg (ne_true_of_eq_false h)

theorem tick_time {s : State} (h : inReset s = false) :
    (tick s).time =
      { tickCount := s.time.tickCount + 1, wheel := s.time.wheel + 1, elapsed := s.time.elapsed.map (· + 1) } := by
  rw [tick_running h]
  simp [tickCounters]

theorem tick_ownNumber {s : State} (h : inReset s = false) : ownNumber (tick s) = ownNumber s := by
  rw [tick_running h]
  simp [ownNumber, tickCounters]

theorem tick_isPresent {s : State} (h : inReset s = false) : isPresent (tick s) = isPresent s := by
  funext p
  have hstate : (tick s).peers[p].state = s.peers[p].state := by
    rw [tick_running h]
    simp only [tickCounters, tickLine_frame, get_ofFn_fin]
  unfold isPresent
  rw [tick_ownNumber h, hstate]

/-- In FRAME a tick leaves the line and the pins as they are. -/
theorem tick_line_of_frame {s : State} (h : inReset s = false) (hframe : s.line.receiver = .frame) :
    (tick s).line = s.line ∧ (tick s).pins = s.pins := by
  rw [tick_running h, tickLine_of_not_wait (by rw [hframe]; decide)]
  simp

theorem tick_hears {f : Frame} {s : State} (hreset : inReset s = false) (h : Hears f s) : Hears f (tick s) := by
  obtain ⟨hframe, hrange, hpeer⟩ := h
  refine ⟨?_, hrange, ?_⟩
  · rw [(tick_line_of_frame hreset hframe).1, hframe]
  · rw [tick_ownNumber hreset]
    exact hpeer

theorem frameMeetsTick_iff (s : State) : frameMeetsTick s = true ↔ s.time.tickCount ∈ s.pins.frameEnds := by
  simp [frameMeetsTick]

/-- The wheel after a frame that is heard (R143, R144). -/
theorem takeFrame_wheel {f : Frame} {s : State} {n : Nat} (hears : Hears f s) (h : s.time.elapsed = some n) :
    (takeFrame f s).time.wheel =
      if reference (takeFrame f s) = f.header.sender then adoptedWheel (frameMeetsTick s) f.header n else s.time.wheel := by
  rw [takeFrame_of_hears hears, takePeerFrame_wheel f (by simpa using h)]
  simp [frameMeetsTick]

/-- The reference station after a frame does not depend on a tick before it. -/
theorem reference_takeFrame_tick {f : Frame} {s : State} (hreset : inReset s = false) (hears : Hears f s) :
    reference (takeFrame f (tick s)) = reference (takeFrame f s) := by
  have hpresent : ∀ u : State, isPresent (hearFrame f u) = isPresent u := fun u => isPresent_congr rfl rfl
  refine reference_congr (funext fun q => ?_) ?_
  · rw [takeFrame_of_hears hears, takeFrame_of_hears (tick_hears hreset hears), isPresent_takePeerFrame (s := hearFrame f s) hears.2.2,
      isPresent_takePeerFrame (s := hearFrame f (tick s)) (tick_hears hreset hears).2.2, hpresent, hpresent, tick_isPresent hreset]
  · have hnumber : ∀ u, ownNumber (takeFrame f u) = ownNumber u := fun u => by simp [ownNumber]
    rw [hnumber, hnumber, tick_ownNumber hreset]

/-- Settles O19. -/
theorem referenceFrameSetsTheWheel : Obligations.ReferenceFrameSetsTheWheel := by
  intro f s n hears hn
  have hwheel := takeFrame_wheel hears hn
  have hreference := reference_eq_peer_iff (s := takeFrame f s) (p := f.header.sender)
    (by simpa [ownNumber] using hears.2.2)
  refine ⟨takeFrame f s, exec_receiveCommand f s, fun hlowest => ?_, fun hnot => ?_⟩
  · have hadopts := hreference.mpr hlowest
    rw [if_pos hadopts] at hwheel
    refine ⟨fun happart => ?_, fun htogether => ?_, fun hpending hreset happart htogether => ?_⟩
    · rw [hwheel, adoptedWheel_val, if_neg (mt (frameMeetsTick_iff s).mp happart)]
    · rw [hwheel, adoptedWheel_val, if_pos ((frameMeetsTick_iff s).mpr htogether)]
    · have hrunning : inReset (takeFrame f s) = false := by simpa [inReset] using hreset
      have hlater := tick_hears hreset hears
      have hmeets : frameMeetsTick (tick s) = true := by
        rw [frameMeetsTick_iff, tick_time hreset, (tick_line_of_frame hreset hears.1).2]
        exact htogether
      have hticked : (tick s).time.elapsed = some (n + 1) := by rw [tick_time hreset, hn]; rfl
      refine ⟨_, step_idle (by simpa using hpending), _, step_idle hpending, _, exec_receiveCommand f _, ?_⟩
      rw [takeFrame_wheel hlater hticked, reference_takeFrame_tick hreset hears, if_pos hadopts, hmeets,
        adoptedWheel_overwrites_tick, tick_time hrunning, hwheel,
        eq_false_of_ne_true (mt (frameMeetsTick_iff s).mp happart)]
  · rw [hwheel, if_neg (mt hreference.mp hnot)]

/-! ### What the body of a frame meets -/

/-- The state that the body of a frame meets: the peer is heard, and the receiver is in WAIT. -/
def heardPeer (f : Frame) (s : State) : State :=
  peerHeard f.header (bodyKind f.body) (rotateTo f.header.sender (hearFrame f s))

section Heard

variable {f : Frame} {s : State}

/-- The body acts on the own points, the list and the Mirror Table as the Presence Table leaves them (Table 27). -/
theorem takeFrame_own (hears : Hears f s) :
    (takeFrame f s).points = (takeBody f.header.sender f.body (heardPeer f s)).points ∧
    (takeFrame f s).list = (takeBody f.header.sender f.body (heardPeer f s)).list ∧
    (takeFrame f s).mirror = (takeBody f.header.sender f.body (heardPeer f s)).mirror ∧
    localMode (takeFrame f s) = localMode (heardPeer f s) := by
  rw [takeFrame_of_hears hears]
  refine ⟨?_, ?_, ?_, localMode_congr ?_ ?_⟩ <;> simp [takePeerFrame, heardPeer]

@[simp] theorem heardPeer_list : (heardPeer f s).list = s.list := by simp [heardPeer]

@[simp] theorem heardPeer_ownNumber : ownNumber (heardPeer f s) = ownNumber s := by simp [heardPeer, ownNumber]

theorem heardPeer_points_mirror (hears : Hears f s) (hkind : bodyKind f.body ≠ .depart) :
    (heardPeer f s).points = s.points ∧ (heardPeer f s).mirror = mirrorHeard f.header.sender s :=
  peerHeard_points_mirror (s := rotateTo f.header.sender (hearFrame f s)) hkind hears.2.2

end Heard

/-- The rows of a peer that is heard, in the words of the statements: only those of the sender can lose a stale mark (R107). -/
theorem mirrorHeard_remote_returned (p : StationNo) (s : State) (q : StationNo) (i : PointIndex) :
    (mirrorHeard p s).remote[q][i] = returned (q != p || s.peers[p].state == .present) s.mirror.remote[q][i] := by
  rw [mirrorHeard_remote]
  by_cases hq : q = p
  · subst hq
    rw [if_pos rfl, bne_self_eq_false, Bool.false_or]
  · rw [if_neg hq, bne_iff_ne.mpr hq]
    rfl

/-! ### PRESENCE and HELLO (O20) -/

theorem vacateMasked_remote (p : StationNo) (m : Mask) (mirror : MirrorTable) (q : StationNo) (i : PointIndex) :
    (vacateMasked p m mirror).remote[q][i] =
      if q = p then (if m[i] = true then mirror.remote[p][i] else .vacant) else mirror.remote[q][i] := by
  simp only [vacateMasked]
  rw [setRows_get]

theorem vacateAll_remote (p : StationNo) (mirror : MirrorTable) (q : StationNo) (i : PointIndex) :
    (vacateAll p mirror).remote[q][i] = if q = p then .vacant else mirror.remote[q][i] := by
  simp only [vacateAll]
  rw [setRows_get]

/-- A register that holds a masked point of the sender holds a point of the sender. -/
theorem dropIf_dropIf (f : FirstOut) (p : StationNo) (m : Mask) :
    (f.dropIf fun q => q.owner == p && !m[q.index]).dropIf (fun q => q.owner == p) = f.dropIf fun q => q.owner == p := by
  have hget : ∀ x : Option PointRef,
      (x.filter fun q => !(q.owner == p && !m[q.index])).filter (fun q => !(q.owner == p)) =
        x.filter fun q => !(q.owner == p) := by
    intro x
    cases x with
    | none => rfl
    | some q => cases howner : q.owner == p <;> cases hmask : m[q.index] <;> simp [Option.filter, howner, hmask]
  simp only [FirstOut.dropIf, hget]

/-- Settles O20. -/
theorem maskAndHelloVacateRows : Obligations.MaskAndHelloVacateRows := by
  intro h m s hframe hpeer
  have hears : ∀ b, bodyInRange b = true → Hears { header := h, body := b } s := fun b hb => ⟨hframe, hb, hpeer⟩
  refine ⟨⟨_, exec_receiveCommand { header := h, body := .presence m } s, ?_⟩,
    ⟨_, exec_receiveCommand { header := h, body := .hello m } s, ?_⟩⟩
  · obtain ⟨hpoints, hlist, hmirror, -⟩ := takeFrame_own (hears (.presence m) rfl)
    obtain ⟨hpoints', hmirror'⟩ := heardPeer_points_mirror (hears (.presence m) rfl) (by decide : FrameKind.presence ≠ .depart)
    rw [hpoints, hlist, hmirror]
    simp only [takeBody, hmirror', hpoints', heardPeer_list]
    refine ⟨fun i => ?_, fun p i hp => ?_, ?_, ?_, trivial, trivial⟩
    · rw [vacateMasked_remote, if_pos rfl, mirrorHeard_remote, if_pos rfl]
      rfl
    · rw [vacateMasked_remote, if_neg hp, mirrorHeard_remote, if_neg hp]
    · simp [vacateMasked]
    · simp [vacateMasked]
  · obtain ⟨hpoints, hlist, hmirror, -⟩ := takeFrame_own (hears (.hello m) rfl)
    obtain ⟨hpoints', hmirror'⟩ := heardPeer_points_mirror (hears (.hello m) rfl) (by decide : FrameKind.hello ≠ .depart)
    rw [hpoints, hlist, hmirror]
    simp only [takeBody, fullRefresh_frame, hmirror', hpoints']
    refine ⟨fun i => ?_, fun p i hp => ?_, ?_, ?_, trivial, ?_⟩
    · rw [vacateAll_remote, if_pos rfl]
      rfl
    · rw [vacateAll_remote, if_neg hp, vacateMasked_remote, if_neg hp, mirrorHeard_remote, if_neg hp]
    · simp only [vacateAll, vacateMasked, mirrorHeard_firstOut]
      exact dropIf_dropIf ..
    · simp [vacateAll, vacateMasked]
    · simp only [fullRefresh, heardPeer_list, refreshed]

/-! ### SILENCE and REFRESH-REQ (O25) -/

/-- Settles O25. -/
theorem silenceAndRefreshRequest : Obligations.SilenceAndRefreshRequest := by
  intro h target s hframe hpeer
  have hears : ∀ b, bodyInRange b = true → Hears { header := h, body := b } s := fun b hb => ⟨hframe, hb, hpeer⟩
  refine ⟨⟨_, exec_receiveCommand { header := h, body := .silence } s, ?_⟩,
    ⟨_, exec_receiveCommand { header := h, body := .refreshReq target } s, ?_⟩⟩
  · obtain ⟨hpoints, hlist, hmirror, -⟩ := takeFrame_own (hears .silence rfl)
    obtain ⟨hpoints', hmirror'⟩ := heardPeer_points_mirror (hears .silence rfl) (by decide : FrameKind.silence ≠ .depart)
    rw [hpoints, hlist, hmirror]
    simp only [takeBody]
    refine ⟨fun p i => ?_, fun i => ?_, ?_, ?_, ?_⟩
    · rw [silencePublication_remote, hmirror', mirrorHeard_remote_returned]
    · simp [silencePublication]
    · simp [silencePublication, hmirror']
    · simp [hpoints']
    · simp
  · obtain ⟨hpoints, hlist, hmirror, -⟩ := takeFrame_own (hears (.refreshReq target) rfl)
    obtain ⟨hpoints', hmirror'⟩ := heardPeer_points_mirror (hears (.refreshReq target) rfl)
      (by decide : FrameKind.refreshReq ≠ .depart)
    have hbody : takeBody h.sender (.refreshReq target) (heardPeer { header := h, body := .refreshReq target } s) =
        if target = ownNumber s then fullRefresh (heardPeer { header := h, body := .refreshReq target } s)
        else heardPeer { header := h, body := .refreshReq target } s := by
      simp only [takeBody, heardPeer_ownNumber]
    rw [hpoints, hlist, hmirror, hbody]
    by_cases htarget : target = ownNumber s
    · rw [if_pos htarget, if_pos htarget]
      refine ⟨?_, fun p i => ?_, ?_, ?_, ?_⟩
      · simp only [fullRefresh, hpoints', heardPeer_list, refreshed]
      · have hrows : (fullRefresh (heardPeer { header := h, body := .refreshReq target } s)).mirror =
            (heardPeer { header := h, body := .refreshReq target } s).mirror := by simp
        rw [hrows, hmirror', mirrorHeard_remote_returned]
      all_goals simp [hmirror', hpoints']
    · rw [if_neg htarget, if_neg htarget]
      refine ⟨by simp, fun p i => ?_, ?_, ?_, ?_⟩
      · rw [hmirror', mirrorHeard_remote_returned]
      all_goals simp [hmirror', hpoints']

/-! ### Claims of a received request (O23) -/

/-- The request names this version of this point. -/
def named (pairs : List ReqPair) (i : PointIndex) (r : OwnPoint) : Bool :=
  pairs.contains { index := i, version := r.version }

/-- A claim moves its point exactly if it is enabled and of the claim's version (R10, R18). -/
theorem versionedClaim_eq (moveOf : PointMode → PointState → Option PointState) (i : PointIndex) (v : Version) (s : State) :
    versionedClaim moveOf i v s =
      applyMove i (claimMove moveOf (decide (v = s.points[i].version)) s.points[i]) s := by
  unfold versionedClaim claimMove
  by_cases hclaim : s.points[i].enabled = true ∧ v = s.points[i].version
  · obtain ⟨henabled, hversion⟩ := hclaim
    rw [if_pos ⟨henabled, hversion⟩, henabled, decide_eq_true hversion]
    rfl
  · rw [if_neg hclaim, if_neg]
    · rfl
    · rw [Bool.and_eq_true, decide_eq_true_eq]
      exact hclaim

section Pairs

variable {pairs : List ReqPair}

theorem rising_of_inRange (h : pairsInRange pairs = true) : (pairs.map (·.index)).Pairwise (· < ·) := by
  simp only [pairsInRange, Bool.and_eq_true, decide_eq_true_eq] at h
  exact h.2

/-- No point occurs twice in a request, so that a pair alone says whether its point's version is named. -/
theorem named_index (h : (pairs.map (·.index)).Pairwise (· < ·)) {p : ReqPair} (hp : p ∈ pairs) (r : OwnPoint) :
    named pairs p.index r = decide (p.version = r.version) := by
  have hnodup : (pairs.map (·.index)).Nodup := h.imp ne_of_lt
  unfold named
  rw [List.contains_eq_mem, decide_eq_decide]
  refine ⟨fun hmem => ?_, fun hv => ?_⟩
  · have heq := List.inj_on_of_nodup_map hnodup hmem hp rfl
    rw [← heq]
  · obtain ⟨index, version⟩ := p
    rw [← hv]
    exact hp

theorem named_eq_false {i : PointIndex} (h : i ∉ pairs.map (·.index)) (r : OwnPoint) : named pairs i r = false := by
  rw [named, List.contains_eq_mem, decide_eq_false_iff_not]
  exact fun hmem => h (List.mem_map_of_mem hmem)

/-- The claims of a request, in frame order, are one pass over the own points in ascending index (R130). -/
theorem takePairs_eq (moveOf : PointMode → PointState → Option PointState)
    (h : (pairs.map (·.index)).Pairwise (· < ·)) (s : State) :
    takePairs (versionedClaim moveOf) pairs s = claimPass moveOf (named pairs) s := by
  obtain ⟨op, hop⟩ : ∃ op : State → PointIndex → State,
      op = fun s i => applyMove i (claimMove moveOf (named pairs i s.points[i]) s.points[i]) s := ⟨_, rfl⟩
  have hclaim : ∀ (s : State), ∀ p ∈ pairs, versionedClaim moveOf p.index p.version s = op s p.index := by
    intro s p hp
    rw [hop]
    dsimp only
    rw [named_index h hp]
    exact versionedClaim_eq moveOf _ _ s
  have hidle : ∀ s i, i ∉ pairs.map (·.index) → op s i = s := by
    intro s i hi
    rw [hop]
    dsimp only
    rw [named_eq_false hi, claimMove_not_taken]
    rfl
  have hsorted : pairs.map (·.index) = (List.finRange 16).filter fun i => decide (i ∈ pairs.map (·.index)) :=
    h.eq_of_mem_iff ((List.pairwise_lt_finRange 16).filter _) (by simp)
  calc takePairs (versionedClaim moveOf) pairs s
      = pairs.foldl (fun s p => op s p.index) s := List.foldl_ext _ _ _ fun s p hp => hclaim s p hp
    _ = (pairs.map (·.index)).foldl op s := List.foldl_map.symm
    _ = (List.finRange 16).foldl op s := by
      rw [hsorted, List.foldl_filter]
      refine List.foldl_ext _ _ _ fun s i _ => ?_
      split
      · rfl
      · next hi => exact (hidle s i (by simpa using hi)).symm
    _ = claimPass moveOf (named pairs) s := by rw [hop]; rfl

end Pairs

/-- `t` is `s` after the claims of this request by the table `moveOf` (R130). -/
def RequestTaken (moveOf : PointMode → PointState → Option PointState) (sender target : StationNo) (pairs : List ReqPair)
    (s t : State) : Prop :=
  (target = ownNumber s →
    (∀ i : Fin 16, t.points[i] =
      moved (localMode t) (claimMove moveOf (named pairs i s.points[i]) s.points[i]) s.points[i]) ∧
    t.list = s.list ++ (List.finRange 16).filter
      (fun i => (claimMove moveOf (named pairs i s.points[i]) s.points[i]).isSome && !s.list.contains i) ∧
    (∀ i : Fin 16, t.mirror.ownHorn[i] =
      (s.mirror.ownHorn[i] && (claimMove moveOf (named pairs i s.points[i]) s.points[i]).isNone)) ∧
    RegistersMoved (localMode t) (fun i => claimMove moveOf (named pairs i s.points[i]) s.points[i]) s t) ∧
  (target ≠ ownNumber s →
    t.points = s.points ∧ t.list = s.list ∧ t.mirror.ownHorn = s.mirror.ownHorn ∧
    t.mirror.firstOut = s.mirror.firstOut) ∧
  (∀ p i : Fin 16, t.mirror.remote[p][i] =
    returned (p != sender || s.peers[sender].state == .present) s.mirror.remote[p][i])

theorem requestTaken_of_body {moveOf : PointMode → PointState → Option PointState}
    (hquiet : ∀ mode state new, moveOf mode state = some new → unacked new = false) {f : Frame} {s : State}
    {target : StationNo} {pairs : List ReqPair} (hears : Hears f s) (hkind : bodyKind f.body ≠ .depart)
    (hrange : pairsInRange pairs = true)
    (hbody : takeBody f.header.sender f.body (heardPeer f s) =
      if target = ownNumber (heardPeer f s) then takePairs (versionedClaim moveOf) pairs (heardPeer f s)
      else heardPeer f s) :
    RequestTaken moveOf f.header.sender target pairs s (takeFrame f s) := by
  obtain ⟨hpoints, hlist, hmirror, hmode⟩ := takeFrame_own hears
  obtain ⟨hpoints', hmirror'⟩ := heardPeer_points_mirror hears hkind
  have hlist' : (heardPeer f s).list = s.list := heardPeer_list
  have hnumber' : ownNumber (heardPeer f s) = ownNumber s := heardPeer_ownNumber
  rw [hbody, hnumber', takePairs_eq moveOf (rising_of_inRange hrange)] at hpoints hlist hmirror
  unfold RequestTaken RegistersMoved
  rw [hpoints, hlist, hmirror, hmode]
  generalize heardPeer f s = u at hpoints' hmirror' hlist' hnumber'
  refine ⟨fun htarget => ?_, fun htarget => ?_, fun p i => ?_⟩
  · rw [if_pos htarget]
    refine ⟨fun i => ?_, ?_, fun i => ?_, fun g _ => ?_⟩
    · rw [claimPass_points, hpoints']
    · rw [claimPass_list, hpoints', hlist']
    · rw [claimPass_ownHorn, hornMoved_claim hquiet, hpoints', hmirror', mirrorHeard_ownHorn]
    · rw [claimPass_register, hpoints', hmirror', mirrorHeard_firstOut, hnumber']
  · rw [if_neg htarget]
    exact ⟨hpoints', hlist', by rw [hmirror', mirrorHeard_ownHorn], by rw [hmirror', mirrorHeard_firstOut]⟩
  · have hremote : (if target = ownNumber s then claimPass moveOf (named pairs) u else u).mirror.remote =
        (mirrorHeard f.header.sender s).remote := by
      split <;> simp [hmirror']
    rw [hremote, mirrorHeard_remote_returned]

/-- Settles O23: the claims of a request are one pass, which meets the points as they stood before the frame. -/
theorem requestPairsAreClaims : Obligations.RequestPairsAreClaims := by
  intro h target pairs s hframe hpeer hrange
  exact ⟨⟨_, exec_receiveCommand { header := h, body := .ackReq target pairs } s,
      requestTaken_of_body unacked_acknowledgeMove ⟨hframe, hrange, hpeer⟩ (by decide : FrameKind.ackReq ≠ .depart)
        hrange rfl⟩,
    ⟨_, exec_receiveCommand { header := h, body := .resetReq target pairs } s,
      requestTaken_of_body unacked_resetMove ⟨hframe, hrange, hpeer⟩ (by decide : FrameKind.resetReq ≠ .depart)
        hrange rfl⟩⟩

/-! ### Catch-up at the begin of local publication mode -/

/-- The catch-up speaks of the own points, the list, the own rows, the registers and the publication mode only. -/
theorem caughtUp_congr {s s' t t' : State} (h : CaughtUp s t) (hmode : localMode s' = localMode s)
    (hlist : s'.list = s.list) (hnumber : ownNumber s' = ownNumber s) (hpoints : s'.points = s.points)
    (hhorn : s'.mirror.ownHorn = s.mirror.ownHorn) (hfirst : s'.mirror.firstOut = s.mirror.firstOut)
    (hmode' : localMode t' = localMode t) (hpoints' : t'.points = t.points)
    (hhorn' : t'.mirror.ownHorn = t.mirror.ownHorn) (hfirst' : t'.mirror.firstOut = t.mirror.firstOut) :
    CaughtUp s' t' := by
  unfold CaughtUp at h ⊢
  rw [hmode, hmode', hlist, hnumber, hpoints, hhorn, hfirst]
  exact caughtUpFrom_congr h hpoints' hhorn' hfirst'

/-- Where local publication mode does not begin and the own points stand there is nothing to catch up (R94). -/
theorem caughtUp_of_stands {s t : State} (hmode : localMode t = true → localMode s = true) (hpoints : t.points = s.points)
    (hhorn : t.mirror.ownHorn = s.mirror.ownHorn) (hfirst : t.mirror.firstOut = s.mirror.firstOut) : CaughtUp s t := by
  have hbegin : (!localMode s && localMode t) = false := by
    cases hs : localMode s with
    | true => rfl
    | false =>
      cases ht : localMode t with
      | false => rfl
      | true => exact absurd (hs.symm.trans (hmode ht)) Bool.false_ne_true
  unfold CaughtUp
  rw [hbegin]
  exact caughtUpFrom_congr (caughtUpFrom_stands s.list (ownNumber s) s) hpoints hhorn hfirst

theorem followPresence_caughtUp (s : State) : CaughtUp s (followPresence s) := by
  unfold followPresence
  split
  · exact catchUpFrom_caughtUp rfl rfl rfl rfl rfl
  · exact caughtUp_of_stands id rfl rfl rfl

/-- Only a station in GROUP begins local publication mode with the Presence Table (R65, R92). -/
theorem followPresence_of_not_group {s : State} (h : s.member.own ≠ .group) :
    (followPresence s).points = s.points ∧ (followPresence s).mirror = s.mirror := by
  unfold followPresence
  split
  · next hjoined =>
    have hsolo : s.member.own = .solo := hjoined.resolve_left h
    rw [catchUpFrom_of_noBegin fun _ => by simp [localMode, hsolo]]
    exact ⟨rfl, rfl⟩
  · exact ⟨rfl, rfl⟩

/-! ### A DEPART (O26) -/

@[simp] theorem markStale_own (p : StationNo) (m : MirrorTable) :
    (markStale p m).ownHorn = m.ownHorn ∧ (markStale p m).firstOut = m.firstOut := ⟨rfl, rfl⟩

/-- The loss of a peer is caught up from the state before it (R94). -/
theorem lostPresence_caughtUp (p : StationNo) (s : State) : CaughtUp s (lostPresence p s) :=
  caughtUp_congr (followPresence_caughtUp { s with mirror := markStale p s.mirror, queue := removeTarget p s.queue })
    rfl rfl rfl rfl rfl rfl rfl rfl rfl rfl

theorem lostPresence_of_not_group (p : StationNo) {s : State} (h : s.member.own ≠ .group) :
    (lostPresence p s).points = s.points ∧ (lostPresence p s).mirror = markStale p s.mirror :=
  followPresence_of_not_group (s := { s with mirror := markStale p s.mirror, queue := removeTarget p s.queue }) h

section Depart

variable {h : Header} {s : State}

/-- What a DEPART leaves of the own points and the Mirror Table is what the Presence Table hands on. -/
theorem takeFrame_depart (hears : Hears { header := h, body := .depart } s) :
    ∃ u, u = peerHeard h .depart (rotateTo h.sender (hearFrame { header := h, body := .depart } s)) ∧
      (takeFrame { header := h, body := .depart } s).points = u.points ∧
      (takeFrame { header := h, body := .depart } s).mirror = u.mirror ∧
      (takeFrame { header := h, body := .depart } s).queue = u.queue ∧
      (takeFrame { header := h, body := .depart } s).member = u.member ∧
      localMode (takeFrame { header := h, body := .depart } s) = localMode u := by
  obtain ⟨hpoints, -, hmirror, hmode⟩ := takeFrame_own hears
  refine ⟨_, rfl, hpoints, hmirror, ?_, ?_, hmode⟩
  · rw [takeFrame_of_hears hears, takePeerFrame_queue]
    rfl
  · rw [takeFrame_of_hears hears, takePeerFrame_member, peerHeard_member, peerHeard_member]
    rfl

end Depart

/-- Settles O26: a DEPART hands on the loss of its sender, unless its entry is DEPARTED already. -/
theorem departMarksThePeerDeparted : Obligations.DepartMarksThePeerDeparted := by
  intro h s hframe hpeer
  have hears : Hears { header := h, body := .depart } s := ⟨hframe, rfl, hpeer⟩
  have hpeers : (takeFrame { header := h, body := .depart } s).peers[h.sender] = entryAfter .depart h := by
    rw [takeFrame_of_hears hears, takePeerFrame_peers]
    simp only [hearFrame_frame, get_set_fin, if_true, bodyKind]
  have hlist : (takeFrame { header := h, body := .depart } s).list = s.list := by
    rw [(takeFrame_own hears).2.1]
    exact heardPeer_list
  obtain ⟨u, hu, hpoints, hmirror, hqueue, hmember, hmode⟩ := takeFrame_depart hears
  obtain ⟨v, hv⟩ : ∃ v, v = rotateTo h.sender (hearFrame { header := h, body := .depart } s) := ⟨_, rfl⟩
  have hstate : v.peers[h.sender].state = s.peers[h.sender].state := by rw [hv]; simp
  rw [← hv, peerHeard_depart, hstate] at hu
  refine ⟨_, exec_receiveCommand { header := h, body := .depart } s, hlist, by rw [hpeers]; rfl, by rw [hpeers]; rfl,
    fun hgone => ?_, fun hhere => ?_⟩
  · rw [if_pos hgone] at hu
    rw [hpoints, hmirror, hqueue, hmember, hu, hv]
    simp
  · rw [if_neg hhere] at hu
    have hrows := peerHeard_depart_remote h v
    rw [peerHeard_depart, hstate, if_neg hhere, ← hu] at hrows
    refine ⟨fun p i => ?_, ?_, fun hgroup => ?_, ?_⟩
    · rw [hmirror, hrows, hv]
      by_cases hp : p = h.sender
      · rw [if_pos ⟨hhere, hp⟩, if_pos hp]
        simp
      · rw [if_neg fun h => hp h.2, if_neg hp]
        simp
    · rw [hqueue, hu, lostPresence_queue, hv]
      simp [removeTarget]
    · have hstands := lostPresence_of_not_group h.sender
        (s := { v with peers := v.peers.set h.sender (entryAfter .depart h) }) (by rw [hv]; simpa using hgroup)
      rw [hpoints, hmirror, hu, hstands.1, hstands.2, hv]
      simp
    · refine caughtUp_congr (lostPresence_caughtUp h.sender
        { v with peers := v.peers.set h.sender (entryAfter .depart h) }) ?_ ?_ ?_ ?_ ?_ ?_ ?_ ?_ ?_ ?_
      case refine_1 => rw [hv]; rfl
      case refine_7 => rw [hmode, hu]
      case refine_8 => rw [hpoints, hu]
      case refine_9 => rw [hmirror, hu]
      case refine_10 => rw [hmirror, hu]
      all_goals rw [hv]; simp [ownNumber]

end Sys2Proof.Machine
end

section
/-! PROOFS. The line and its receiver: ladders, the start mark, damaged frames, jams, and the frame with the own
number (O27 to O31). -/

namespace Sys2Proof.Machine

open Sys2Proof.Safety

/-! ### Ladder and line status (O29) -/

/-- Settles O29: each of the four events where it is taken. -/
theorem ladderFollowsTheLineStatus : Obligations.LadderFollowsTheLineStatus := by
  intro s
  refine ⟨fun hquiet hrx => ⟨_, if_pos ⟨hquiet, hrx⟩, rfl⟩, fun hbusy hwait => ⟨_, if_pos ⟨hbusy, hwait⟩, rfl⟩,
    fun l hl hquiet hnone => ⟨_, ?_, rfl⟩, fun hunheard hquiet hnone => ⟨_, if_pos ⟨hunheard, hquiet, hnone⟩, rfl⟩⟩
  simp only [exec, execLadderRepeat, Option.mem_def.mp hl]
  exact if_pos ⟨hquiet, hnone⟩

/-! ### Halves on LRX -/

theorem length_halvesOn (pins : InputPins) (n : Nat) : (halvesOn pins n).length = n := by
  simp [halvesOn]
  omega

/-- The first of the next halves are the next ones themselves. -/
theorem take_halvesOn (pins : InputPins) {n m : Nat} (h : n ≤ m) : (halvesOn pins m).take n = halvesOn pins n := by
  unfold halvesOn
  rw [List.take_append, ← List.map_take, List.take_take, List.take_replicate, Nat.min_eq_left h]
  congr 2
  simp
  omega

theorem getElem?_halvesOn (pins : InputPins) {n m j : Nat} (hj : j < n) (h : n ≤ m) :
    (halvesOn pins n)[j]? = (halvesOn pins m)[j]? := by
  rw [← take_halvesOn pins h, List.getElem?_take_of_lt hj]

/-- The line after the next halves on LRX (R28, R38). -/
theorem hearPins_heardLine (n : Nat) {s : State} (h : CountBelow s.line) :
    (hearPins n s).line = heardLine (halvesOn s.pins n) s.line := by
  have hline := foldl_hear_eq (halvesOn s.pins n) s.line h
  simp only [hearPins, hline]
  unfold heardLine
  split <;> rfl

/-! ### The start mark (O30) -/

/-- Before the first difference what is heard is what is sent, and there it is not (R51). -/
theorem firstDifference_eq_some {sent heard : List Bool} {n : Nat} (h : firstDifference sent heard = some n) :
    1 ≤ n ∧ n ≤ sent.length ∧ (∀ j < n - 1, heard[j]? = sent[j]?) ∧ heard[n - 1]? ≠ sent[n - 1]? := by
  induction sent generalizing heard n with
  | nil => simp [firstDifference] at h
  | cons a sent ih =>
    cases heard with
    | nil => simp [firstDifference] at h
    | cons b heard =>
      rw [firstDifference] at h
      split at h
      · next hab =>
        subst hab
        obtain ⟨k, hk, rfl⟩ := Option.map_eq_some_iff.mp h
        obtain ⟨hpos, hle, hbefore, hdiffers⟩ := ih hk
        refine ⟨by omega, by simpa using hle, fun j hj => ?_, ?_⟩
        · cases j with
          | zero => rfl
          | succ j => simpa using hbefore j (by omega)
        · obtain ⟨m, rfl⟩ := Nat.exists_eq_add_of_le' hpos
          simpa using hdiffers
      · next hab =>
        obtain rfl := Option.some.inj h
        exact ⟨le_rfl, by simp, fun j hj => absurd hj (Nat.not_lt_zero j), by simpa using fun h => hab h.symm⟩

theorem firstDifference_eq_none {sent heard : List Bool} (hlength : sent.length = heard.length)
    (h : firstDifference sent heard = none) : heard = sent := by
  induction sent generalizing heard with
  | nil => exact List.length_eq_zero_iff.mp hlength.symm
  | cons a sent ih =>
    cases heard with
    | nil => cases hlength
    | cons b heard =>
      rw [firstDifference] at h
      split at h
      · next hab => rw [ih (Nat.succ.inj hlength) (Option.map_eq_none_iff.mp h), hab]
      · cases h

/-- The halves after the first that MARK decides, up to the one that departs from the start mark (R30). -/
theorem halvesOfUnframed_spec (pins : InputPins) :
    1 ≤ halvesOfUnframed pins ∧ halvesOfUnframed pins ≤ 7 ∧
    (∀ j < halvesOfUnframed pins - 1, (halvesOn pins 7)[j]? = startMark[j + 1]?) ∧
    (halvesOfUnframed pins < 7 → (halvesOn pins 7)[halvesOfUnframed pins - 1]? ≠ startMark[halvesOfUnframed pins]?) := by
  have hmark : ∀ j, (startMark.drop 1)[j]? = startMark[j + 1]? := fun j => rfl
  unfold halvesOfUnframed
  cases hfirst : firstDifference (startMark.drop 1) (halvesOn pins 7) with
  | none =>
    have heq := firstDifference_eq_none (by rw [length_halvesOn]; rfl) hfirst
    simp only [Option.getD_none]
    exact ⟨by omega, le_rfl, fun j _ => by rw [heq, hmark], fun h => absurd h (lt_irrefl 7)⟩
  | some n =>
    obtain ⟨hpos, hle, hbefore, hdiffers⟩ := firstDifference_eq_some hfirst
    simp only [Option.getD_some]
    refine ⟨hpos, hle, fun j hj => by rw [hbefore j hj, hmark], fun _ => ?_⟩
    rw [hmark, Nat.sub_add_cancel hpos] at hdiffers
    exact hdiffers

theorem jamHeld_of_lt {j : Fin 2049} (h : j.val < 2047) : jamHeld j = j + 1 := by
  have hne : j ≠ 2048 := by
    rintro rfl
    simp at h
  refine Fin.ext ?_
  rw [jamHeld_val, if_neg hne, Fin.val_add_one_of_lt (Fin.lt_def.mpr (by simp; omega))]
  omega

/-- Four BT more in the jam count. -/
theorem jamHeld_four {j : Fin 2049} (h : j.val < 2044) : jamHeld (jamHeld (jamHeld (jamHeld j))) = j + 4 := by
  have hsucc : ∀ k : Fin 2049, k.val < 2047 → (k + 1).val = k.val + 1 := fun k hk => by
    rw [Fin.val_add_one_of_lt (Fin.lt_def.mpr (by simp; omega))]
  have h1 := hsucc j (by omega)
  have h2 := hsucc (j + 1) (by omega)
  have h3 := hsucc (j + 1 + 1) (by omega)
  rw [jamHeld_of_lt (j := j) (by omega), jamHeld_of_lt (j := j + 1) (by omega), jamHeld_of_lt (j := j + 1 + 1) (by omega),
    jamHeld_of_lt (j := j + 1 + 1 + 1) (by omega), add_assoc, add_assoc, add_assoc]
  rfl

/-- The line at the end of the start mark, of which half 1 was heard before (R28, R30, R38). -/
theorem hearUpTo_startMark {l : LineInterface} (hbusy : l.status = .busy) (hone : l.decided = 1)
    (hroom : l.jamCount.val < 2044) :
    l.hearUpTo startMark = { l with quietCount := 2, jamCount := l.jamCount + 4, decided := 8, windowPart := 0 } := by
  obtain ⟨receiver, status, quietCount, jamCount, windows, decided, windowPart⟩ := l
  dsimp only at hbusy hone hroom
  subst hbusy hone
  have hjam := jamHeld_four hroom
  simp [LineInterface.hearUpTo, startMark, LineInterface.hear, hjam]
  rfl

/-- Settles O30. -/
theorem receiverFollowsTheStartMark : Obligations.ReceiverFollowsTheStartMark := by
  intro s
  refine ⟨fun hidle => ⟨_, if_pos hidle, rfl⟩, fun hmark hquiet => ⟨_, if_pos ⟨hmark, hquiet⟩, rfl⟩,
    fun hmark hbusy => ⟨⟨_, if_pos ⟨hmark, hbusy⟩, halvesOfUnframed s.pins, ?_⟩, ⟨_, if_pos ⟨hmark, hbusy⟩, rfl, ?_, ?_⟩⟩⟩
  · obtain ⟨hpos, hle, hbefore, hdiffers⟩ := halvesOfUnframed_spec s.pins
    generalize halvesOfUnframed s.pins = n at hpos hle hbefore hdiffers
    refine ⟨List.mem_range.mpr (by omega), hpos, fun j hj => ?_, fun hn => ?_, rfl, fun hbelow => ?_, ?_⟩
    · have hj := List.mem_range.mp hj
      rw [getElem?_halvesOn s.pins (by omega) hle, hbefore j hj]
    · rw [getElem?_halvesOn s.pins (by omega) hle]
      exact hdiffers hn
    · rw [toReceiver_line, hearPins_heardLine n hbelow]
    · rfl
  · intro hone hroom
    rw [hearUpTo_startMark hbusy hone hroom]
  · rfl

/-! ### A damaged frame (O28) -/

/-- FRAME decides halves on LRX up to the first at which the receiver delivers an event. -/
theorem unfinished_before_halvesOfFrame (pins : InputPins) {k : Nat} (hpos : 0 < k) (hk : 2 * k < halvesOfFrame pins) :
    receiveHalves (halvesOn pins (2 * k)) = .unfinished := by
  unfold halvesOfFrame at hk
  cases hfind : (List.range longestFrame).find? fun k => receiveHalves (halvesOn pins (2 * (1 + k))) != .unfinished with
  | none =>
    rw [hfind, Option.getD_none] at hk
    omega
  | some n =>
    rw [hfind, Option.getD_some] at hk
    obtain ⟨-, i, hi, hin, hbefore⟩ := List.find?_eq_some_iff_getElem.mp hfind
    have hn : i = n := by simpa using hin
    have hunfinished := hbefore (k - 1) (by omega)
    rw [List.getElem_range, Nat.add_sub_cancel' hpos] at hunfinished
    simpa using hunfinished

/-- Where LRX shows nothing the first BT is a lost carrier (Table 21). -/
theorem halvesOfFrame_of_nil {pins : InputPins} (h : pins.lrx = []) : halvesOfFrame pins = 2 := by
  have hhalves : halvesOn pins 2 = [false, false] := by simp [halvesOn, h]
  have hdamaged : receiveHalves (halvesOn pins (2 * (1 + 0))) = .damaged := by
    rw [Nat.add_zero, Nat.mul_one, hhalves]
    decide
  have hrange : List.range longestFrame = 0 :: (List.range 340).map (· + 1) := by
    rw [longestFrame, List.range_succ_eq_map]
  unfold halvesOfFrame
  rw [hrange, List.find?_cons_of_pos]
  · rfl
  · rw [hdamaged]
    decide

/-- Settles O28. -/
theorem damagedFrameSetsRotationZero : Obligations.DamagedFrameSetsRotationZero := by
  intro s hframe
  refine ⟨⟨_, if_pos hframe, rfl, fun hbelow => ?_, fun k _ hpos hk => unfinished_before_halvesOfFrame s.pins hpos hk,
    halvesOfFrame_of_nil, ?_⟩, fun f hrange => ⟨_, exec_receiveCommand f s, ?_, takeFrame_heardLine hframe, ?_⟩⟩
  · generalize halvesOfFrame s.pins = n
    have hline := hearPins_heardLine n hbelow
    simp only [frameDamaged, toReceiver_line, hline]
  · generalize halvesOfFrame s.pins = n
    rfl
  · rw [(takeFrame_line hframe).1]
  · have hdamaged : takeFrame f s = frameDamaged (hearFrame f s) := by
      rw [takeFrame, if_neg (not_not_intro hframe), if_pos (by rw [hrange]; rfl)]
    rw [hdamaged]
    rfl

/-! ### A full jam count (O31) -/

theorem hear_jamFull {l : LineInterface} (h : l.jamCount = 2048) (carrier : Bool) : (l.hear carrier).jamCount = 2048 := by
  unfold LineInterface.hear
  split
  · exact h
  · have hfull : jamHeld 2048 = 2048 := Fin.ext (jamHeld_val 2048)
    dsimp only
    rw [h, hfull, ite_self]

theorem foldl_hear_jamFull (halves : List Bool) {l : LineInterface} (h : l.jamCount = 2048) :
    (halves.foldl LineInterface.hear l).jamCount = 2048 := by
  induction halves generalizing l with
  | nil => exact h
  | cons x halves ih => exact ih (hear_jamFull h x)

theorem hearUpTo_jamFull (halves : List Bool) {l : LineInterface} (h : l.jamCount = 2048) :
    (l.hearUpTo halves).jamCount = 2048 := foldl_hear_jamFull _ h

theorem hearPins_jamFull (n : Nat) {s : State} (h : s.line.jamCount = 2048) : (hearPins n s).line.jamCount = 2048 :=
  foldl_hear_jamFull _ h

theorem takeFrame_jamFull (f : Frame) {s : State} (h : s.line.jamCount = 2048) : (takeFrame f s).line.jamCount = 2048 := by
  by_cases hframe : s.line.receiver = .frame
  · rw [(takeFrame_line hframe).1]
    exact hearUpTo_jamFull _ h
  · rw [takeFrame_of_not_frame f hframe, h]

theorem tick_jamFull {s : State} (h : s.line.jamCount = 2048) : (tick s).line.jamCount = 2048 := by
  unfold tick
  split
  · exact h
  · simp only [tickCounters_frame, tickLine]
    split
    · exact hearPins_jamFull _ h
    · exact h

/-- Only LINE_QUIET, a station reset and the start of the Line Interface take the jam count from 2048 (R38). -/
theorem exec_jamFull {c : Instr} {s t : State} (h : exec c s = .next t) (hquiet : c ≠ .lineQuiet)
    (hload : c ≠ .endOfLoading) (hreset : ∀ cause, c ≠ .stationReset cause) (hfull : s.line.jamCount = 2048) :
    t.line.jamCount = 2048 := by
  by_cases hc : touchesLine c = false
  · rw [(exec_line h hc).1, hfull]
  cases c with
  | stationReset cause => exact absurd rfl (hreset cause)
  | endOfLoading => exact absurd rfl hload
  | lineQuiet => exact absurd rfl hquiet
  | releaseOfReset | fieldInputSample | keySample | presenceTimerExpiry | listenWindowEnd | lostTimerExpiry
  | supplyWarningEvent | supplyRecoveryEvent | cdiSample | commonPeriodStart | toneInstant =>
    exact absurd rfl hc
  | lineBusy | firstHighSample | spike | ladderStartAfterUnheardAttempt | jamEvent =>
    simp only [exec, execLineBusy, execFirstHighSample, execSpike, execLadderStartAfterUnheardAttempt, execJamEvent] at h
    split at h <;> obtain rfl := Host.Outcome.next.inj h <;> simp [LineInterface.align, hfull]
  | ladderRepeat =>
    simp only [exec, execLadderRepeat] at h
    (repeat' split at h) <;> obtain rfl := Host.Outcome.next.inj h <;> exact hfull
  | unframedCarrier =>
    simp only [exec, execUnframedCarrier] at h
    split at h <;> obtain rfl := Host.Outcome.next.inj h
    · exact hearPins_jamFull _ hfull
    · exact hfull
  | startOfFrame =>
    simp only [exec, execStartOfFrame] at h
    split at h <;> obtain rfl := Host.Outcome.next.inj h
    · exact hearUpTo_jamFull _ hfull
    · exact hfull
  | damagedFrame =>
    simp only [exec, execDamagedFrame] at h
    split at h <;> obtain rfl := Host.Outcome.next.inj h
    · exact hearPins_jamFull (s := s) _ hfull
    · exact hfull
  | receivePresence | receiveHello | receiveAnnounce | receiveAckReq | receiveResetReq | receiveRefreshReq
  | receiveSilence | receiveDepart =>
    obtain rfl := Host.Outcome.next.inj h
    exact takeFrame_jamFull _ hfull
  | receiveOwnNumberFrame =>
    simp only [exec, execReceiveOwnNumberFrame] at h
    split at h <;> obtain rfl := Host.Outcome.next.inj h
    · rw [(takeOwnNumberFrame_line _).1]
      exact hearUpTo_jamFull _ (by simpa using hfull)
    · exact hfull
  | slotStart cls =>
    rcases exec_slotStart_cases h with rfl | ⟨l, -, rfl | ⟨c, -, -, rfl⟩⟩
    · exact hfull
    · exact hfull
    · rw [beginAttempt_line]
      exact hfull
  | ownStartMarkEnd =>
    rcases exec_ownStartMarkEnd_cases h with rfl | ⟨a, -, -, -, rfl⟩
    · exact hfull
    · exact hearUpTo_jamFull _ hfull
  | collision half =>
    rcases exec_collision_cases h with rfl | ⟨a, -, -, rfl⟩
    · exact hfull
    · dsimp only
      split
      · simpa using hfull
      · exact hearUpTo_jamFull _ hfull
  | attemptSuccess =>
    rcases exec_attemptSuccess_cases h with rfl | ⟨a, -, -, -, -, rfl⟩
    · exact hfull
    · rw [succeeded_line]
      exact hearUpTo_jamFull _ hfull
  | attemptFailure =>
    rcases exec_attemptFailure_cases h with rfl | ⟨a, -, -, rfl⟩
    · exact hfull
    · rw [failed_line]
      exact hearPins_jamFull _ hfull

/-- Settles O31. -/
theorem jamSetsLineFault : Obligations.JamSetsLineFault := by
  intro s
  refine ⟨fun hbusy hrx hjam hnone => ⟨_, if_pos ⟨hbusy, hrx, hjam, hnone⟩, by simp, by simp,
      catchUpFrom_caughtUp rfl rfl rfl rfl rfl, ?_⟩,
    fun hfull => ⟨if_neg fun h => h.2.2.1 hfull, fun hidle => ⟨_, step_idle hidle, tick_jamFull hfull⟩,
      fun c t h hquiet hload hreset => exec_jamFull h hquiet hload hreset hfull⟩⟩
  apply state_eq_of_fields
  case mirror => exact mirror_eq_of_remote (by simp)
  all_goals simp

/-! ### What the receiver delivers is in range (R33, R35) -/

theorem Parse.andThen_eq_done {α β : Type} {p : Parse α} {next : α → List Bool → Parse β} {b : β} {rest : List Bool}
    (h : p.andThen next = .done b rest) : ∃ a mid, p = .done a mid ∧ next a mid = .done b rest := by
  cases p with
  | done a mid => exact ⟨a, mid, rfl, h⟩
  | short => cases h
  | bad => cases h

theorem readCount_done {bits rest : List Bool} {n : Nat} (h : readCount bits = .done n rest) : 1 ≤ n ∧ n ≤ 16 := by
  obtain ⟨m, mid, -, h⟩ := Parse.andThen_eq_done h
  split at h
  · next hrange =>
    cases h
    exact hrange
  · cases h

theorem readPairs_done {n : Nat} {last : Option PointIndex} {bits rest : List Bool} {ps : List ReqPair}
    (h : readPairs n last bits = .done ps rest) :
    ps.length = n ∧ (ps.map (·.index)).Pairwise (· < ·) ∧ ∀ p ∈ ps, ∀ l ∈ last, l < p.index := by
  induction n generalizing last bits ps with
  | zero =>
    cases h
    exact ⟨rfl, List.Pairwise.nil, by simp⟩
  | succ n ih =>
    obtain ⟨i, mid, -, h⟩ := Parse.andThen_eq_done h
    dsimp only at h
    split at h
    · cases h
    · next hrising =>
      obtain ⟨v, mid', -, h⟩ := Parse.andThen_eq_done h
      obtain ⟨qs, mid'', hqs, h⟩ := Parse.andThen_eq_done h
      cases h
      obtain ⟨hlength, hsorted, hafter⟩ := ih hqs
      have hfirst : ∀ l ∈ last, l < Fin.ofNat 16 i := by
        intro l hl
        rw [Option.mem_def.mp hl] at hrising
        simpa using hrising
      refine ⟨by rw [List.length_cons, hlength], ?_, ?_⟩
      · rw [List.map_cons, List.pairwise_cons]
        refine ⟨fun j hj => ?_, hsorted⟩
        obtain ⟨q, hq, rfl⟩ := List.mem_map.mp hj
        exact hafter q hq _ rfl
      · intro p hp l hl
        rcases List.mem_cons.mp hp with rfl | hp
        · exact hfirst l hl
        · exact (hfirst l hl).trans (hafter p hp _ rfl)

theorem readEntry_done {seen : List PointIndex} {bits rest : List Bool} {e : AnnounceEntry}
    (h : readEntry seen bits = .done e rest) : e.index ∉ seen ∧ (!(e.mark && e.group == .g0)) = true := by
  obtain ⟨i, mid, -, h⟩ := Parse.andThen_eq_done h
  dsimp only at h
  split at h
  · cases h
  · next hseen =>
    obtain ⟨p, mid, -, h⟩ := Parse.andThen_eq_done h
    split at h
    · cases h
    · obtain ⟨g, mid, -, h⟩ := Parse.andThen_eq_done h
      obtain ⟨m, mid, -, h⟩ := Parse.andThen_eq_done h
      split at h
      · cases h
      · next hmark =>
        obtain ⟨v, mid, -, h⟩ := Parse.andThen_eq_done h
        cases h
        refine ⟨hseen, ?_⟩
        by_cases hone : m = 1
        · have hgroup : groupOfCode g ≠ .g0 := fun hg => hmark ⟨hone, hg⟩
          rw [beq_false_of_ne hgroup, Bool.and_false]
          rfl
        · rw [beq_false_of_ne hone]
          rfl

theorem readEntries_done {n : Nat} {seen : List PointIndex} {bits rest : List Bool} {es : List AnnounceEntry}
    (h : readEntries n seen bits = .done es rest) :
    es.length = n ∧ (es.map (·.index)).Nodup ∧ (∀ e ∈ es, e.index ∉ seen) ∧
      ∀ e ∈ es, (!(e.mark && e.group == .g0)) = true := by
  induction n generalizing seen bits es with
  | zero =>
    cases h
    simp
  | succ n ih =>
    obtain ⟨e, mid, he, h⟩ := Parse.andThen_eq_done h
    obtain ⟨es', mid', hes, h⟩ := Parse.andThen_eq_done h
    cases h
    obtain ⟨hseen, hmark⟩ := readEntry_done he
    obtain ⟨hlength, hnodup, hnew, hmarks⟩ := ih hes
    refine ⟨by rw [List.length_cons, hlength], ?_, ?_, List.forall_mem_cons.mpr ⟨hmark, hmarks⟩⟩
    · rw [List.map_cons, List.nodup_cons]
      refine ⟨fun hmem => ?_, hnodup⟩
      obtain ⟨a, ha, heq⟩ := List.mem_map.mp hmem
      exact hnew a ha (heq ▸ List.mem_cons_self)
    · exact List.forall_mem_cons.mpr ⟨hseen, fun a ha hmem => hnew a ha (List.mem_cons_of_mem _ hmem)⟩

theorem readRequest_done {bits rest : List Bool} {r : StationNo × List ReqPair} (h : readRequest bits = .done r rest) :
    pairsInRange r.2 = true := by
  obtain ⟨t, mid, -, h⟩ := Parse.andThen_eq_done h
  obtain ⟨n, mid, hn, h⟩ := Parse.andThen_eq_done h
  obtain ⟨ps, mid, hps, h⟩ := Parse.andThen_eq_done h
  cases h
  obtain ⟨hpos, hle⟩ := readCount_done hn
  obtain ⟨rfl, hsorted, -⟩ := readPairs_done hps
  simp only [pairsInRange, Bool.and_eq_true, decide_eq_true_eq]
  exact ⟨⟨hpos, hle⟩, hsorted⟩

theorem readBody_done {kind : FrameKind} {bits rest : List Bool} {b : Body} (h : readBody kind bits = .done b rest) :
    bodyInRange b = true := by
  cases kind with
  | silence | depart =>
    cases h
    rfl
  | presence | hello | refreshReq =>
    obtain ⟨m, mid, -, h⟩ := Parse.andThen_eq_done h
    cases h
    rfl
  | announce =>
    obtain ⟨n, mid, hn, h⟩ := Parse.andThen_eq_done h
    obtain ⟨es, mid, hes, h⟩ := Parse.andThen_eq_done h
    cases h
    obtain ⟨hpos, hle⟩ := readCount_done hn
    obtain ⟨rfl, hnodup, -, hmarks⟩ := readEntries_done hes
    simp only [bodyInRange, entriesInRange, Bool.and_eq_true, decide_eq_true_eq, List.all_eq_true]
    exact ⟨⟨⟨hpos, hle⟩, hnodup⟩, hmarks⟩
  | ackReq | resetReq =>
    obtain ⟨r, mid, hr, h⟩ := Parse.andThen_eq_done h
    cases h
    exact readRequest_done hr

theorem readCovered_done {bits rest : List Bool} {f : Frame} (h : readCovered bits = .done f rest) :
    bodyInRange f.body = true := by
  obtain ⟨sender, mid, -, h⟩ := Parse.andThen_eq_done h
  obtain ⟨k, mid, -, h⟩ := Parse.andThen_eq_done h
  split at h
  · cases h
  · obtain ⟨sequence, mid, -, h⟩ := Parse.andThen_eq_done h
    obtain ⟨step, mid, -, h⟩ := Parse.andThen_eq_done h
    obtain ⟨fine, mid, -, h⟩ := Parse.andThen_eq_done h
    obtain ⟨status, mid, -, h⟩ := Parse.andThen_eq_done h
    obtain ⟨body, mid, hbody, h⟩ := Parse.andThen_eq_done h
    cases h
    exact readBody_done hbody

/-- A valid frame has every field in range (R33). -/
theorem bodyInRange_of_valid {halves : List Bool} {f : Frame} (h : receiveHalves halves = .valid f) :
    bodyInRange f.body = true := by
  unfold receiveHalves at h
  split at h
  · next g left hread =>
    cases h
    obtain ⟨a, mid, ha, h⟩ := Parse.andThen_eq_done hread
    obtain ⟨check, mid', -, h⟩ := Parse.andThen_eq_done h
    split at h
    · cases h
      exact readCovered_done ha
    · cases h
  · cases h
  · split at h <;> cases h

/-! ### The frame with the own number (O27) -/

theorem ownFrameOnLrx_of_valid {s : State} {g : Frame}
    (h : receiveHalves (halvesOn s.pins (halvesOfFrame s.pins)) = .valid g) (hown : g.header.sender = ownNumber s) :
    ownFrameOnLrx s = some g := by
  unfold ownFrameOnLrx
  rw [h]
  dsimp only
  rw [if_pos hown]

theorem valid_of_ownFrameOnLrx {s : State} {g : Frame} (h : ownFrameOnLrx s = some g) :
    receiveHalves (halvesOn s.pins (halvesOfFrame s.pins)) = .valid g ∧ g.header.sender = ownNumber s := by
  unfold ownFrameOnLrx at h
  split at h
  · next f hf =>
    split at h
    · next hown =>
      cases h
      exact ⟨hf, hown⟩
    · cases h
  · cases h

theorem ownNumberFrame_of_some {s : State} {g : Frame} (h : ownFrameOnLrx s = some g) : ownNumberFrame s = g := by
  rw [ownNumberFrame, h, Option.getD_some]

theorem ownNumberFrame_of_none {s : State} (h : ownFrameOnLrx s = none) : ownNumberFrame s = freeOwnFrame s := by
  rw [ownNumberFrame, h, Option.getD_none]

/-- The frame with the own number is a valid one that bears the own number, on LRX or free (log entry 28). -/
theorem ownNumberFrame_valid (s : State) :
    bodyInRange (ownNumberFrame s).body = true ∧ (ownNumberFrame s).header.sender = ownNumber s := by
  cases h : ownFrameOnLrx s with
  | some g =>
    obtain ⟨hvalid, hown⟩ := valid_of_ownFrameOnLrx h
    rw [ownNumberFrame_of_some h]
    exact ⟨bodyInRange_of_valid hvalid, hown⟩
  | none =>
    rw [ownNumberFrame_of_none h]
    refine ⟨?_, rfl⟩
    unfold freeOwnFrame
    dsimp only
    split
    · next hrange => exact hrange
    · rfl

theorem passOwnNumberFrame_pins (s : State) :
    (passOwnNumberFrame s).pins =
      if (ownFrameOnLrx s).isSome then { s.pins with lrx := s.pins.lrx.drop (halvesOfFrame s.pins) }
      else { s.pins with untold := s.pins.untold + 1 } := by
  simp only [passOwnNumberFrame]

/-! ### Two catch-ups from one state -/

theorem mirror_ext {m n : MirrorTable} (hremote : m.remote = n.remote) (hhorn : m.ownHorn = n.ownHorn)
    (hfirst : m.firstOut = n.firstOut) : m = n := by
  cases m
  cases n
  cases hremote
  cases hhorn
  cases hfirst
  rfl

theorem firstOut_eq_of_get {f g : FirstOut} (h : ∀ k ∈ [FirstOutGroup.g1, .g2, .g3], f.get k = g.get k) : f = g := by
  obtain ⟨f1, f2, f3⟩ := f
  obtain ⟨g1, g2, g3⟩ := g
  have h1 : f1 = g1 := h .g1 (by simp)
  have h2 : f2 = g2 := h .g2 (by simp)
  have h3 : f3 = g3 := h .g3 (by simp)
  rw [h1, h2, h3]

/-- The catch-up leaves nothing open: from one state it gives the same records, own rows and registers. -/
theorem caughtUp_unique {s t u : State} (ht : CaughtUp s t) (hu : CaughtUp s u) (hmode : localMode t = localMode u) :
    t.points = u.points ∧ t.mirror.ownHorn = u.mirror.ownHorn ∧ t.mirror.firstOut = u.mirror.firstOut := by
  unfold CaughtUp at ht hu
  rw [hmode] at ht
  obtain ⟨htrecords, htregisters⟩ := ht
  obtain ⟨hurecords, huregisters⟩ := hu
  refine ⟨?_, ?_, firstOut_eq_of_get fun g hg => (htregisters g hg).trans (huregisters g hg).symm⟩
  · ext1 i hi
    exact (htrecords ⟨i, hi⟩).1.trans (hurecords ⟨i, hi⟩).1.symm
  · ext1 i hi
    exact (htrecords ⟨i, hi⟩).2.trans (hurecords ⟨i, hi⟩).2.symm

theorem enterDuplicate_caughtUp (s : State) : CaughtUp s (enterDuplicate s) := by
  unfold enterDuplicate
  split
  · exact caughtUp_of_stands id rfl rfl rfl
  · exact catchUpFrom_caughtUp rfl rfl rfl rfl rfl

theorem takeOwnNumberFrame_caughtUp {s v : State} (hmode : localMode v = localMode s) (hlist : v.list = s.list)
    (hnumber : ownNumber v = ownNumber s) (hpoints : v.points = s.points) (hmirror : v.mirror = s.mirror) :
    CaughtUp s (takeOwnNumberFrame v) :=
  caughtUp_congr (enterDuplicate_caughtUp (rotateTo (ownNumber v) v)) hmode.symm hlist.symm hnumber.symm hpoints.symm
    (by rw [← hmirror]; rfl) (by rw [← hmirror]; rfl) rfl rfl rfl rfl

theorem takeOwnNumberFrame_pins (v : State) : (takeOwnNumberFrame v).pins = v.pins := by simp

section OwnNumber

variable {s v : State}

theorem takeOwnNumberFrame_member (v : State) :
    (takeOwnNumberFrame v).member =
      if v.member.own = .duplicate ∨ v.member.own = .loading then v.member
      else
        { v.member with
          own := .duplicate, listenTimer := .stopped, helloQueued := false, departPending := false
          heldRecovery := false, returnState := none } := by
  rw [takeOwnNumberFrame, enterDuplicate_member]
  simp

theorem takeOwnNumberFrame_access (v : State) :
    (takeOwnNumberFrame v).access =
      if v.member.own = .duplicate ∨ v.member.own = .loading then { v.access with rotation := ownNumber v + 1 }
      else { v.access with rotation := ownNumber v + 1, presenceTimer := .stopped, presencePending := false } := by
  rw [takeOwnNumberFrame, enterDuplicate_access]
  simp [rotateTo]

/-- The frame with the own number acts on a state that has heard it as on the one before it. -/
theorem takeOwnNumberFrame_caughtUp_of_heard (hv : v = { s with line := v.line, pins := v.pins }) :
    CaughtUp s (takeOwnNumberFrame v) := by
  have hheard := takeOwnNumberFrame_caughtUp (s := s) (v := { s with line := v.line, pins := v.pins }) rfl rfl rfl rfl rfl
  rwa [← hv] at hheard

/-- What has been heard of the line before the frame with the own number makes no difference to it. -/
theorem takeOwnNumberFrame_eq {w : State} (hv : v = { s with line := v.line, pins := v.pins })
    (hw : w = { s with line := w.line, pins := w.pins }) :
    takeOwnNumberFrame w =
      { takeOwnNumberFrame v with line := (takeOwnNumberFrame w).line, pins := w.pins } := by
  have hmember : (takeOwnNumberFrame w).member = (takeOwnNumberFrame v).member := by
    rw [takeOwnNumberFrame_member, takeOwnNumberFrame_member, hv, hw]
  have haccess : (takeOwnNumberFrame w).access = (takeOwnNumberFrame v).access := by
    rw [takeOwnNumberFrame_access, takeOwnNumberFrame_access, hv, hw]
    rfl
  have hmode : localMode (takeOwnNumberFrame w) = localMode (takeOwnNumberFrame v) :=
    localMode_congr (by rw [hmember]) (by rw [haccess])
  obtain ⟨hpoints, hhorn, hfirst⟩ :=
    caughtUp_unique (takeOwnNumberFrame_caughtUp_of_heard hw) (takeOwnNumberFrame_caughtUp_of_heard hv) hmode
  apply state_eq_of_fields
  case points => exact hpoints
  case member => exact hmember
  case access => exact haccess
  case mirror =>
    have hremote : (takeOwnNumberFrame w).mirror.remote = (takeOwnNumberFrame v).mirror.remote := by
      rw [takeOwnNumberFrame_remote, takeOwnNumberFrame_remote, hv, hw]
    exact mirror_ext hremote hhorn hfirst
  case line => rfl
  all_goals simp only [takeOwnNumberFrame_frame]
  all_goals rw [hv, hw]

end OwnNumber

/-- Settles O27. -/
theorem ownNumberFrameMakesDuplicate : Obligations.OwnNumberFrameMakesDuplicate := by
  intro s hframe hload
  obtain ⟨v, hv⟩ : ∃ v, v = hearFrame (ownNumberFrame s) (passOwnNumberFrame s) := ⟨_, rfl⟩
  have hexec : exec .receiveOwnNumberFrame s = .next (takeOwnNumberFrame v) := hv ▸ if_pos hframe
  obtain ⟨hrange, hown⟩ := ownNumberFrame_valid s
  have hline : v.line = s.line.hearUpTo (frameHalves (ownNumberFrame s)) := by rw [hv]; simp [hearFrame]
  have hpins : v.pins = if (ownFrameOnLrx s).isSome then { s.pins with lrx := s.pins.lrx.drop (halvesOfFrame s.pins) }
      else { s.pins with untold := s.pins.untold + 1 } := by
    rw [hv, ← passOwnNumberFrame_pins]
    simp
  have hblocks : v = { s with line := v.line, pins := v.pins } := by
    apply state_eq_of_fields
    case line => rfl
    case pins => rfl
    all_goals rw [hv]; simp
  have hmember : v.member = s.member := by rw [hblocks]
  have haccess : v.access = s.access := by rw [hblocks]
  have hnumber : ownNumber v = ownNumber s := by rw [hblocks]; rfl
  clear hv
  have hwait : (takeOwnNumberFrame v).line = { s.line.hearUpTo (frameHalves (ownNumberFrame s)) with receiver := .wait } := by
    rw [(takeOwnNumberFrame_line v).1, hline]
  refine ⟨_, hexec, fun f hf hsender => ⟨_, exec_receiveCommand f s, ?_, ?_, takeFrame_heardLine hframe⟩, ?_,
    ⟨hrange, hown, fun hbelow => ?_, fun hbusy hstart => ?_⟩, fun g hg hsender => ⟨?_, ?_⟩, fun hnone => ⟨?_, ?_⟩,
    fun hdup => ?_, fun hdup => ⟨?_, ?_, takeOwnNumberFrame_caughtUp_of_heard hblocks, ?_⟩⟩
  · have htake : takeFrame f s = takeOwnNumberFrame (hearFrame f s) := by
      rw [takeFrame, if_neg (not_not_intro hframe), if_neg (by rw [hf]; decide), if_pos hsender]
    rw [htake]
    exact takeOwnNumberFrame_eq hblocks rfl
  · rw [(takeFrame_line hframe).1]
  · rw [hwait]
  · rw [hwait, hearUpTo_eq _ _ hbelow]
  · rw [hwait]
    exact ⟨hearUpTo_frame_quietCount _ hbusy hstart, hearUpTo_frame_jamCount _ hbusy hstart⟩
  · exact ownNumberFrame_of_some (ownFrameOnLrx_of_valid hg hsender)
  · rw [(takeOwnNumberFrame_pins v), hpins, ownFrameOnLrx_of_valid hg hsender, Option.isSome_some, if_pos rfl]
  · exact ownNumberFrame_of_none hnone
  · rw [(takeOwnNumberFrame_pins v), hpins, hnone, Option.isSome_none, if_neg Bool.false_ne_true]
  · have hstays : takeOwnNumberFrame v = rotateTo (ownNumber v) v := if_pos (.inl (hmember ▸ hdup))
    rw [hstays, hnumber]
    apply state_eq_of_fields
    case line => rfl
    case pins => rfl
    case access => simp [rotateTo, haccess]
    all_goals simp only [rotateTo_frame]
    all_goals rw [hblocks]
  · rw [takeOwnNumberFrame_access, if_neg, haccess, hnumber]
    · rfl
    · rw [hmember]
      exact fun h => h.elim hdup hload
  · rw [takeOwnNumberFrame_member, if_neg, hmember]
    · rfl
    · rw [hmember]
      exact fun h => h.elim hdup hload
  · apply state_eq_of_fields
    case mirror =>
      refine mirror_eq_of_remote ?_
      rw [takeOwnNumberFrame_remote, hblocks]
    case points => rfl
    case line => rfl
    case access => rfl
    case member => rfl
    case pins => rfl
    all_goals simp only [takeOwnNumberFrame_frame]
    all_goals rw [hblocks]

end Sys2Proof.Machine
end

section
/-! PROOFS. Slots, the build of a frame, the end of the own start mark and the collision (O34 to O38). -/

namespace Sys2Proof.Machine

open Sys2Proof.Safety

/-! ### Slots (O34 to O36) -/

/-- SLOT_START of a slot that has not begun in this run of the ladder (R44, R46). -/
theorem exec_slotStart_begun {cls : FrameClass} {s : State} {l : Ladder} (hl : s.access.ladder = some l)
    (hslot : l.nextSlot ≤ slotNumber cls s) :
    exec (.slotStart cls) s =
      if mayTransmit s = true then .next (takeSlot cls (slotBegun cls l s)) else .next (slotBegun cls l s) := by
  simp only [exec, execSlotStart, hl]
  exact if_pos hslot

theorem exec_slotStart_attempt {cls : FrameClass} {s : State} {c : Choice} {l : Ladder} (hl : s.access.ladder = some l)
    (hslot : l.nextSlot ≤ slotNumber cls s) (hmay : mayTransmit s = true) (hc : choice s = some c)
    (hsuits : cls = .routine ∨ kindClass (choiceKind c) = .urgent) :
    exec (.slotStart cls) s = .next (beginAttempt c (slotBegun cls l s)) := by
  have hchoice : choice (slotBegun cls l s) = some c := hc
  rw [exec_slotStart_begun hl hslot, if_pos hmay, takeSlot, hchoice]
  exact congrArg Host.Outcome.next (if_pos hsuits)

/-- A slot that has begun in this run of the ladder does not begin again (log entry 11). -/
theorem exec_slotStart_again (cls : FrameClass) (l : Ladder) (s : State) :
    exec (.slotStart cls) (slotBegun cls l s) = .next (slotBegun cls l s) :=
  if_neg (Nat.not_succ_le_self _)

/-- Settles O35. -/
theorem slotPassesWithoutAttempt : Obligations.SlotPassesWithoutAttempt := by
  intro cls s l hl hslot hpass
  refine ⟨slotBegun cls l s, ?_, exec_slotStart_again cls l s, rfl⟩
  rw [exec_slotStart_begun hl hslot]
  by_cases hmay : mayTransmit s = true
  · rw [if_pos hmay]
    have hchoice : choice (slotBegun cls l s) = choice s := rfl
    unfold takeSlot
    rw [hchoice]
    rcases hpass with hnot | hnone | ⟨hurgent, c, hc, hroutine⟩
    · exact absurd (hnot.symm.trans hmay) Bool.false_ne_true
    · rw [hnone]
    · rw [Option.mem_def.mp hc]
      dsimp only
      rw [if_neg]
      rw [hurgent, hroutine]
      decide
  · rw [if_neg hmay]

/-- The first item of Table 34 that is present (R47). -/
theorem choice_items {s : State} {c : Choice} (h : choice s = some c) :
    (s.member.departPending = true → c = .depart) ∧
    (s.member.departPending = false → s.list ≠ [] → c = .announce) ∧
    (s.member.departPending = false → s.list = [] → ∀ e rest, s.queue.entries = e :: rest → c = .request e.request) ∧
    (s.member.departPending = false → s.list = [] → s.queue.entries = [] → s.member.helloQueued = true → c = .hello) ∧
    (s.member.departPending = false → s.list = [] → s.queue.entries = [] → s.member.helloQueued = false →
      c = .presence) := by
  unfold choice at h
  refine ⟨fun hdepart => ?_, fun hdepart hlist => ?_, fun hdepart hlist e rest hentries => ?_,
    fun hdepart hlist hentries hhello => ?_, fun hdepart hlist hentries hhello => ?_⟩
  · simpa [hdepart, eq_comm] using h
  · simpa [hdepart, hlist, eq_comm] using h
  · simpa [hdepart, hlist, hentries, eq_comm] using h
  · simpa [hdepart, hlist, hentries, hhello, eq_comm] using h
  · simp only [hdepart, hlist, hentries, hhello, Bool.false_eq_true, if_false, ne_eq, not_true_eq_false] at h
    split at h
    · exact (Option.some.inj h).symm
    · cases h

/-- The bits of a field, counted from its last one. -/
theorem testBit_ofBits (bits : List Bool) (i : Nat) : (ofBits bits).testBit i = (bits.reverse[i]?).getD false := by
  induction bits using List.reverseRecOn generalizing i with
  | nil => simp [ofBits]
  | append_singleton bits b ih =>
    have hsnoc : ofBits (bits ++ [b]) = 2 * ofBits bits + b.toNat := by simp [ofBits]
    rw [hsnoc, List.reverse_append, List.reverse_singleton, List.singleton_append]
    cases i with
    | zero => cases b <;> simp [Nat.testBit_zero]
    | succ i =>
      rw [List.getElem?_cons_succ, ← ih, Nat.testBit_succ]
      congr 1
      cases b
      · simp
      · simp
        omega

/-- The enabled mask has the bit of each point (R48). -/
theorem enabledMask_get (s : State) (i : Fin 16) : (enabledMask s)[i] = s.points[i].enabled := by
  unfold enabledMask
  rw [Fin.getElem_fin, BitVec.getElem_eq_testBit_toNat, BitVec.toNat_ofNat, Nat.testBit_mod_two_pow, testBit_ofBits]
  simp

theorem bodyFor_request (r : Request) (s : State) : bodyFor (.request r) s = requestBody r := by cases r <;> rfl

theorem isRequest_requestBody (r : Request) : isRequest (requestBody r) = true := by cases r <;> rfl

/-- The start of an attempt touches the points, the queue, the line and the Access Controller (R50). -/
theorem beginAttempt_eq (c : Choice) (s : State) :
    beginAttempt c s =
      { s with
        points := (beginAttempt c s).points, queue := (beginAttempt c s).queue
        line := s.line.align .ownAttempt .transmit
        access := { s.access with ladder := none, attempt := (beginAttempt c s).access.attempt } } := by
  cases c <;> rfl

/-- Settles O34. -/
theorem slotBeginsTheChosenFrame : Obligations.SlotBeginsTheChosenFrame := by
  rintro cls s hmay ⟨l, hl, hslot⟩ ⟨c, hc, hsuits⟩
  obtain ⟨hdepart, hannounce, hrequest, hhello, hpresence⟩ := choice_items hc
  have hqueue := beginAttempt_queue c (slotBegun cls l s)
  have hpoints := beginAttempt_points c (slotBegun cls l s)
  refine ⟨_, exec_slotStart_attempt hl hslot hmay hc hsuits, rfl, ?_, enabledMask_get s, ?_, beginAttempt_eq c _⟩
  · rintro a ha
    obtain rfl := Option.some.inj ha
    refine ⟨?_, ?_, ?_, ?_, ?_, ?_⟩
    · have hsolo : (s.member.own == .solo) = decide (s.member.own = .solo) := rfl
      simp only [frameFor, statusFlags]
      rw [← hsolo]
      rfl
    · exact fun hd => congrArg (bodyFor · _) (hdepart hd)
    · rintro hd hl
      obtain rfl := hannounce hd hl
      rfl
    · rintro hd hl e he
      obtain ⟨rest, hentries⟩ := List.head?_eq_some_iff.mp he
      obtain rfl := hrequest hd hl e rest hentries
      refine ⟨bodyFor_request _ _, hqueue.trans ?_⟩
      have hq : (slotBegun cls l s).queue = s.queue := rfl
      simp only [hq, markHeadInFlight, hentries, List.tail_cons]
    · rintro hd hl hq hh
      obtain rfl := hhello hd hl hq hh
      rfl
    · rintro hd hl hq hh
      obtain rfl := hpresence hd hl hq hh
      rfl
  · rintro a ha
    obtain rfl := Option.some.inj ha
    refine ⟨fun hrequest => ?_, fun hkind => ?_⟩
    · rw [hqueue]
      cases c with
      | request r => exact absurd ((bodyFor_request r _ ▸ isRequest_requestBody r).symm.trans hrequest) (by decide)
      | depart | announce | hello | presence => rfl
    · rw [hpoints, if_neg (fun h => hkind (by rw [h]; rfl))]
      rfl

/-- The first-out mark of a listed point (R87): no register of g0 holds a point. -/
theorem entryFor_eq (s : State) (i : PointIndex) :
    entryFor s i =
      { index := i, state := s.points[i].state, group := s.points[i].group
        mark := decide (s.points[i].group ≠ .g0 ∧
          s.mirror.firstOut.get s.points[i].group = some { owner := ownNumber s, index := i })
        version := s.points[i].version } := by
  have hmark : (s.mirror.firstOut.get s.points[i].group == some { owner := ownNumber s, index := i }) =
      decide (s.points[i].group ≠ .g0 ∧
        s.mirror.firstOut.get s.points[i].group = some { owner := ownNumber s, index := i }) := by
    rw [Bool.eq_iff_iff, beq_iff_eq, decide_eq_true_iff, iff_and_self]
    rintro hget hg0
    rw [hg0, FirstOut.get_g0] at hget
    cases hget
  simp only [entryFor, hmark]

theorem takeSnapshots_get (s : State) (i : PointIndex) :
    (takeSnapshots s).points[i] =
      if i ∈ s.list then { s.points[i] with snapshot := some (pairOf s.points[i]) } else s.points[i] :=
  get_ofFn_fin ..

/-- Settles O36. -/
theorem announceIsBuiltFromTheList : Obligations.AnnounceIsBuiltFromTheList := by
  rintro cls s hmay hdepart hlist ⟨l, hl, hslot⟩
  have hc : choice s = some .announce := by simp [choice, hdepart, hlist]
  refine ⟨_, exec_slotStart_attempt hl hslot hmay hc (.inr rfl), ?_, ?_, by simp [slotBegun], beginAttempt_queue _ _, by simp [slotBegun]⟩
  · have hentries : s.list.map (entryFor s) = _ := List.map_congr_left fun i _ => entryFor_eq s i
    rw [← hentries]
    rfl
  · intro i
    rw [beginAttempt_points, if_pos rfl, takeSnapshots_get]
    rfl

/-! ### The end of the own start mark and the collision (O37, O38) -/

theorem wheelStep_val (w : Fin 32768) : (wheelStep w).val = w.val / 2048 := by
  simp only [wheelStep, Fin.val_ofNat]
  omega

theorem wheelFine_toNat (w : Fin 32768) : (wheelFine w).toNat = w.val % 2048 / 8 := by
  simp only [wheelFine, BitVec.toNat_ofNat]
  omega

/-- The phase that a frame carries once the wheel is sampled into it is the wheel at a multiple of 8 (R139). -/
theorem carriedPhase_withPhase (w : Fin 32768) (f : Frame) : carriedPhase (withPhase w f).header = 8 * (w.val / 8) := by
  simp only [carriedPhase, withPhase, wheelStep_val, wheelFine_toNat]
  omega

/-- An own start mark ends with a half without carrier; the halves before it, and one more that was not sent, are what a
collision in its last half lets hear. -/
theorem heardToCollision_startMark (f : Frame) : heardToCollision f 8 = startMark.take 7 ++ [true] := rfl

theorem putRight_hear (l : LineInterface) : (l.hear false).putRight = l.hear true := by
  unfold LineInterface.hear LineInterface.putRight
  by_cases h : l.status = .quiet
  · simp [h]
  · simp [h, quietHeld_carrier]

theorem putRight_eq (l : LineInterface) :
    l.putRight = { l with quietCount := if l.status = .busy then 0 else l.quietCount } := by
  obtain ⟨receiver, status⟩ := l
  cases status <;> rfl

/-- A start mark heard as it was sent, and its last half put right, is the start mark heard up to a collision there. -/
theorem hearUpTo_startMark_putRight (f : Frame) {l : LineInterface} (h : l.decided < 8) :
    (l.hearUpTo startMark).putRight = l.hearUpTo (heardToCollision f 8) := by
  have hdrop (b : Bool) : (startMark.take 7 ++ [b]).drop l.decided = (startMark.take 7).drop l.decided ++ [b] :=
    List.drop_append_of_le_length (by simpa [startMark] using Nat.le_of_lt_succ h)
  have hwindow (l : LineInterface) :
      ({ l with windowPart := 0 } : LineInterface).putRight = { l.putRight with windowPart := 0 } := by
    unfold LineInterface.putRight
    by_cases hq : l.status = .quiet <;> simp [hq]
  have hsent : startMark.drop l.decided = (startMark.take 7).drop l.decided ++ [false] := hdrop false
  rw [heardToCollision_startMark, LineInterface.hearUpTo, LineInterface.hearUpTo, hwindow, hsent, hdrop,
    List.foldl_append, List.foldl_append, List.foldl_cons, List.foldl_nil, putRight_hear]
  rfl

/-- Halves that are decided already are not decided again. -/
theorem hearUpTo_decided {l : LineInterface} {halves : List Bool} (h : halves.length ≤ l.decided) (hw : l.windowPart = 0) :
    l.hearUpTo halves = l := by
  rw [LineInterface.hearUpTo, List.drop_eq_nil_of_le h, List.foldl_nil, ← hw]

theorem length_heardToCollision (f : Frame) {half : Nat} (hpos : 0 < half) (hle : half ≤ 2 * frameLength f.body) :
    (heardToCollision f half).length = half := by
  have hlength := length_frameHalves f
  have hin : half - 1 < (frameHalves f).length := by omega
  simp [heardToCollision, List.getElem?_eq_getElem hin]
  omega

/-- What was heard is what was sent up to a half at which the other level was heard. -/
theorem firstDifference_flipped {xs : List Bool} {n : Nat} (h : n < xs.length) :
    firstDifference xs (xs.take n ++ xs[n]?.toList.map not) = some (n + 1) := by
  induction xs generalizing n with
  | nil => exact absurd h (Nat.not_lt_zero n)
  | cons x xs ih =>
    cases n with
    | zero => cases x <;> rfl
    | succ n => simp [firstDifference, ih (Nat.lt_of_succ_lt_succ h)]

theorem exec_ownStartMarkEnd_none {s : State} (h : s.access.attempt = none) : exec .ownStartMarkEnd s = .next s := by
  simp only [exec, execOwnStartMarkEnd, h]

theorem exec_ownStartMarkEnd_stands {s : State} {a : Attempt} (ha : s.access.attempt = some a)
    (h : a.phaseSampled = true ∨ a.collision ≠ none ∧ a.collision ≠ some 8) : exec .ownStartMarkEnd s = .next s := by
  simp only [exec, execOwnStartMarkEnd, ha]
  refine if_neg ?_
  rintro ⟨hphase, hcollision⟩
  rcases h with hsampled | ⟨hnone, hlast⟩
  · exact absurd (hphase.symm.trans hsampled) Bool.false_ne_true
  · exact hcollision.elim hnone hlast

/-- The station after the end of its own start mark (R139). -/
def startMarkEnded (a : Attempt) (s : State) : State :=
  { s with
    line := s.line.hearUpTo startMark
    access := { s.access with attempt := some { a with frame := withPhase s.time.wheel a.frame, phaseSampled := true } } }

theorem exec_ownStartMarkEnd_taken {s : State} {a : Attempt} (ha : s.access.attempt = some a)
    (hphase : a.phaseSampled = false) (h : a.collision = none ∨ a.collision = some 8) :
    exec .ownStartMarkEnd s = .next (startMarkEnded a s) := by
  simp only [exec, execOwnStartMarkEnd, ha]
  exact if_pos ⟨hphase, h⟩

/-- Settles O37. -/
theorem startMarkEndSamplesThePhase : Obligations.StartMarkEndSamplesThePhase := by
  refine fun s => ⟨exec_ownStartMarkEnd_none, fun a ha => ⟨exec_ownStartMarkEnd_stands ha, fun hphase hcollision => ?_⟩⟩
  refine ⟨_, exec_ownStartMarkEnd_taken ha hphase hcollision, exec_ownStartMarkEnd_stands rfl (.inl rfl), ⟨_, rfl, ?_⟩,
    hearUpTo_eq startMark s.line, rfl⟩
  have hcarried := carriedPhase_withPhase s.time.wheel a.frame
  refine ⟨wheelStep_val _, wheelFine_toNat _, ?_, ?_, ?_, rfl⟩ <;> dsimp only <;> omega

theorem exec_collision_stands {s : State} {a : Attempt} (ha : s.access.attempt = some a) (h : a.collision ≠ none)
    (half : Nat) : exec (.collision half) s = .next s := by
  simp only [exec, execCollision, ha]
  exact if_neg fun htaken => h htaken.1

/-- The station after a collision in half `half` of this attempt (R51). -/
def collided (half : Nat) (a : Attempt) (s : State) : State :=
  { s with
    line := if endsOwnMark a half s then s.line.putRight else s.line.hearUpTo (heardToCollision a.frame half)
    access := { s.access with attempt := some { a with collision := some half } } }

theorem exec_collision_taken {s : State} {a : Attempt} {half : Nat} (ha : s.access.attempt = some a)
    (hc : a.collision = none) (hhalf : s.line.decided < half ∨ endsOwnMark a half s = true)
    (hle : half ≤ 2 * frameLength a.frame.body) : exec (.collision half) s = .next (collided half a s) := by
  simp only [exec, execCollision, ha]
  exact if_pos ⟨hc, hhalf, hle⟩

theorem endsOwnMark_iff {a : Attempt} {half : Nat} {s : State} :
    endsOwnMark a half s = true ↔ a.phaseSampled = true ∧ half = 8 ∧ s.line.decided = half := by
  simp [endsOwnMark, startMark, and_assoc]

theorem collided_line_before {half : Nat} {a : Attempt} {s : State} (h : s.line.decided < half) :
    (collided half a s).line = s.line.hearUpTo (heardToCollision a.frame half) :=
  if_neg fun hends => h.ne (endsOwnMark_iff.mp hends).2.2

/-- At the end of the own start mark a collision and OWN_START_MARK_END give the same outcome in either order (R51, R139). -/
theorem startMarkEnded_collided {a : Attempt} {s : State} (h : s.line.decided < 8)
    (hle : 8 ≤ 2 * frameLength a.frame.body) :
    collided 8 { a with frame := withPhase s.time.wheel a.frame, phaseSampled := true } (startMarkEnded a s) =
      startMarkEnded { a with collision := some 8 } (collided 8 a s) := by
  have hlength := length_heardToCollision a.frame (Nat.succ_pos 7) hle
  have hdecided : (s.line.hearUpTo startMark).decided = 8 := by
    rw [(hearUpTo_frame _ _).2.2.2.2]
    simp only [startMark, List.length_cons, List.length_nil]
    omega
  have hsampledFirst : (collided 8 { a with frame := withPhase s.time.wheel a.frame, phaseSampled := true }
      (startMarkEnded a s)).line = s.line.hearUpTo (heardToCollision a.frame 8) :=
    (if_pos (endsOwnMark_iff.mpr ⟨rfl, rfl, hdecided⟩)).trans (hearUpTo_startMark_putRight a.frame h)
  have hcollidedFirst : (startMarkEnded { a with collision := some 8 } (collided 8 a s)).line =
      s.line.hearUpTo (heardToCollision a.frame 8) := by
    rw [startMarkEnded, collided_line_before h]
    refine hearUpTo_decided ?_ rfl
    rw [(hearUpTo_frame _ _).2.2.2.2, hlength]
    simp only [startMark, List.length_cons, List.length_nil]
    omega
  refine state_eq_of_fields rfl rfl rfl rfl (hsampledFirst.trans hcollidedFirst.symm) rfl rfl rfl rfl rfl rfl rfl rfl rfl rfl

/-- Settles O38. -/
theorem collisionEndsTheTransmission : Obligations.CollisionEndsTheTransmission := by
  intro half s a ha hc hhalf hle
  have hpos : 0 < half := by omega
  have hlength := length_heardToCollision a.frame hpos hle
  have hsent := length_frameHalves a.frame
  have hends : endsOwnMark a half s = true ↔ s.line.decided = half := by
    refine endsOwnMark_iff.trans ⟨fun h => h.2.2, fun heq => ?_⟩
    rcases hhalf with hlt | ⟨hphase, height, -⟩
    · exact absurd heq hlt.ne
    · exact ⟨hphase, height, heq⟩
  have htaken := exec_collision_taken ha hc (hhalf.imp_right fun h => hends.mpr (h.2.2.trans h.2.1.symm)) hle
  refine ⟨_, htaken, rfl, fun hlt hbelow => ?_, fun heq => ?_, fun hphase height => ?_, ?_, ?_,
    exec_collision_stands rfl (Option.some_ne_none half), ?_, List.take_prefix ..⟩
  · exact (collided_line_before hlt).trans (hearUpTo_eq _ _ hbelow)
  · exact (if_pos (hends.mpr heq)).trans (putRight_eq _)
  · obtain hlt | ⟨hsampled, -⟩ := hhalf
    · subst height
      refine ⟨_, exec_ownStartMarkEnd_taken rfl hphase (.inr rfl), _, exec_ownStartMarkEnd_taken ha hphase (.inl hc), ?_⟩
      rw [← startMarkEnded_collided hlt hle]
      refine exec_collision_taken rfl hc (.inr (endsOwnMark_iff.mpr ⟨rfl, rfl, ?_⟩)) hle
      rw [startMarkEnded, (hearUpTo_frame _ _).2.2.2.2]
      simp only [startMark, List.length_cons, List.length_nil]
      omega
    · exact absurd (hphase.symm.trans hsampled) Bool.false_ne_true
  · by_cases heq : s.line.decided = half
    · rw [collided, if_pos (hends.mpr heq), putRight_eq]
      exact heq
    · have hlt : s.line.decided < half := by omega
      rw [collided_line_before hlt, (hearUpTo_frame _ _).2.2.2.2, hlength]
      omega
  · have hflipped := firstDifference_flipped (xs := frameHalves a.frame) (n := half - 1) (by omega)
    rwa [Nat.sub_add_cancel hpos] at hflipped
  · rw [sentHalves, List.length_take, hsent]

end Sys2Proof.Machine
end

section
/-! PROOFS. The outcomes of an attempt: success and failure, the snapshot rule, requests, HELLO and DEPART (O39 to
O43). -/

namespace Sys2Proof.Machine

open Sys2Proof.Safety

/-! ### The success of an attempt (O39) -/

/-- One half without carrier stands at the end of a frame whose last bit is 1, and none if it is 0, where the two halves of
that bit are heard together. -/
theorem hearUpTo_frameEnd_quietCount (f : Frame) {l : LineInterface} (hbusy : l.status = .busy)
    (hleft : l.decided + 2 ≤ 2 * frameLength f.body) :
    (l.hearUpTo (frameHalves f)).quietCount = if lastCheckBit f = true then 1 else 0 := by
  obtain ⟨halves, hhalves⟩ := frameHalves_drop_eq f
  have hwhole : frameHalves f = ((frameHalves f).take 8 ++ halves) ++ bitHalves (lastCheckBit f) := by
    rw [List.append_assoc, ← hhalves, List.take_append_drop]
  have hlength := congrArg List.length hwhole
  rw [length_frameHalves, List.length_append (bs := bitHalves _)] at hlength
  have hbefore : l.decided ≤ ((frameHalves f).take 8 ++ halves).length := by
    have htwo : (bitHalves (lastCheckBit f)).length = 2 := rfl
    omega
  have hdrop : (frameHalves f).drop l.decided =
      ((frameHalves f).take 8 ++ halves).drop l.decided ++ bitHalves (lastCheckBit f) := by
    conv_lhs => rw [hwhole]
    exact List.drop_append_of_le_length hbefore
  generalize ((frameHalves f).take 8 ++ halves).drop l.decided = before at hdrop
  have hstatus : (before.foldl LineInterface.hear l).status = .busy := by simpa using hbusy
  simp only [LineInterface.hearUpTo, hdrop, List.foldl_append, bitHalves, List.foldl_cons, List.foldl_nil]
  rw [hear_quietCount (by simpa using hstatus), hear_quietCount hstatus]
  cases lastCheckBit f <;> rfl

/-- The state at the success before the catch-up: reported, and refreshed where LINE FAULT was set (R52, R59, R85). -/
def reported (a : Attempt) (s : State) : State :=
  refreshIf s.access.lineFault (reportSuccess a.frame.body (successSteps a.frame s))

theorem succeeded_eq (a : Attempt) (s : State) : succeeded a s = noteHorn (catchUpAfter a.frame.body (reported a s)) := rfl

theorem reported_list (a : Attempt) (s : State) :
    (reported a s).list =
      if s.access.lineFault = true then
        refreshed (reportSuccess a.frame.body (successSteps a.frame s))
          (reportSuccess a.frame.body (successSteps a.frame s)).list
      else (reportSuccess a.frame.body (successSteps a.frame s)).list := by
  simp only [reported, refreshIf]
  split <;> rfl

theorem succeeded_list (a : Attempt) (s : State) : (succeeded a s).list = (reported a s).list := by
  simp only [succeeded_eq, noteHorn_frame, catchUpAfter_frame]

/-- Only the success of an ANNOUNCE is followed by a catch-up (R94). -/
theorem catchUpAfter_of_not_announce {b : Body} (h : bodyKind b ≠ .announce) (s : State) : catchUpAfter b s = s :=
  if_neg fun hb => h hb.1

theorem refreshed_congr {s u : State} (h : SettingsStand s u) (l : List PointIndex) : refreshed u l = refreshed s l := by
  unfold refreshed
  refine congrArg (l ++ ·) (List.filter_congr fun i _ => ?_)
  rw [(h i).1]

theorem mem_refreshed {s : State} {l : List PointIndex} {i : PointIndex} (h : s.points[i].enabled = true) :
    i ∈ refreshed s l := by
  by_cases hi : i ∈ l
  · exact List.mem_append_left _ hi
  · exact List.mem_append_right _ (by simp [-Fin.getElem_fin, h, hi])

/-- A full refresh lists every enabled point, so a second one adds none (R84). -/
theorem refreshed_refreshed (s : State) (l : List PointIndex) : refreshed s (refreshed s l) = refreshed s l := by
  have hnone : ((List.finRange 16).filter fun i => s.points[i].enabled && !(refreshed s l).contains i) = [] := by
    refine List.filter_eq_nil_iff.mpr fun i _ hi => ?_
    obtain ⟨henabled, hunlisted⟩ := Bool.and_eq_true_iff.mp hi
    simp [mem_refreshed henabled] at hunlisted
  exact (congrArg (refreshed s l ++ ·) hnone).trans (List.append_nil _)

/-- What a success reports leaves the Access Controller as it is, but that a DEPART stops the presence timer (R67). -/
theorem reportSuccess_access (b : Body) (s : State) :
    (reportSuccess b s).access =
      if bodyKind b = .depart then { s.access with presenceTimer := .stopped, presencePending := false } else s.access := by
  cases b <;> simp [reportSuccess, bodyKind]

theorem reportSuccess_member_stands {b : Body} (hdepart : bodyKind b ≠ .depart) (hhello : bodyKind b ≠ .hello) (s : State) :
    (reportSuccess b s).member = s.member := by
  cases b <;> simp_all [reportSuccess, bodyKind]

theorem reportSuccess_points_mirror {b : Body} (hannounce : bodyKind b ≠ .announce) (hdepart : bodyKind b ≠ .depart)
    (s : State) :
    (reportSuccess b s).points = s.points ∧ (reportSuccess b s).mirror.firstOut = s.mirror.firstOut ∧
      (bodyKind b ≠ .silence → (reportSuccess b s).mirror = s.mirror) := by
  cases b with
  | silence => exact ⟨rfl, rfl, absurd rfl⟩
  | _ => simp_all [reportSuccess, bodyKind]

theorem reportSuccess_list {b : Body} (hannounce : bodyKind b ≠ .announce) (s : State) :
    (reportSuccess b s).list = if bodyKind b = .hello then refreshed s s.list else s.list := by
  cases b <;> simp_all [reportSuccess, bodyKind]
  rfl

theorem succeeded_access (a : Attempt) (s : State) :
    (succeeded a s).access = (reportSuccess a.frame.body (successSteps a.frame s)).access := by
  simp [succeeded]

/-- The settings of the points stand at a success. -/
theorem reportSuccess_settingsStand (a : Attempt) (s : State) :
    SettingsStand s (reportSuccess a.frame.body (successSteps a.frame s)) :=
  ((reportSuccess_ownRun (successSteps a.frame s) a.frame.body).after (by simp) (by simp) (by simp) (by simp)
    (by simp [ownNumber])).settingsStand

theorem succeeded_points_mirror {a : Attempt} (hannounce : bodyKind a.frame.body ≠ .announce)
    (hdepart : bodyKind a.frame.body ≠ .depart) (s : State) :
    (succeeded a s).points = s.points ∧ (succeeded a s).mirror.firstOut = s.mirror.firstOut ∧
      (bodyKind a.frame.body ≠ .silence → (succeeded a s).mirror = s.mirror) := by
  rw [succeeded_eq, catchUpAfter_of_not_announce hannounce]
  simpa [reported] using reportSuccess_points_mirror hannounce hdepart (successSteps a.frame s)

/-- Settles O39. -/
theorem successStepsAreTaken : Obligations.SuccessStepsAreTaken := by
  intro s a ha hc hp hh
  have hline := succeeded_line a s
  have haccess : (succeeded a s).access = _ := (succeeded_access a s).trans (reportSuccess_access ..)
  have hsettings := reportSuccess_settingsStand a s
  refine ⟨_, exec_attemptSuccess_taken ha hc hp hh, by rw [hline], fun hbelow => ?_, fun hbusy hleft => ?_, ?_,
    fun hdepart => ?_, fun hfault i hi => ?_, fun hfault hannounce => ?_, fun hdepart hhello => ?_, fun hrequest => ?_,
    fun hannounce hdepart => ?_, fun hfault hannounce hhello => ?_, ?_⟩
  · rw [hline, hearUpTo_eq _ _ hbelow]
  · rw [hline]
    exact hearUpTo_frameEnd_quietCount a.frame hbusy hleft
  · rw [haccess]
    split <;> rfl
  · rw [haccess, if_neg hdepart]
    rfl
  · rw [succeeded_list, reported_list, if_pos hfault]
    exact mem_refreshed ((hsettings i).1.trans hi)
  · rw [succeeded_list, reported_list, if_pos hfault, refreshed_congr hsettings, reportSuccess_list hannounce]
    have hsteps : refreshed (successSteps a.frame s) (successSteps a.frame s).list = refreshed s s.list := rfl
    split
    · rw [hsteps, refreshed_refreshed]
    · rfl
  · simp [succeeded, reportSuccess_member_stands hdepart hhello]
  · rw [succeeded_queue, hrequest, if_neg Bool.false_ne_true]
  · exact succeeded_points_mirror hannounce hdepart s
  · rw [succeeded_list, reported_list, hfault, if_neg Bool.false_ne_true, reportSuccess_list hannounce, if_neg hhello]
    simp
  · refine state_eq_of_fields ?_ ?_ rfl rfl rfl rfl rfl ?_ rfl ?_ rfl ?_ ?_ ?_ ?_
    case refine_6 => exact noteHorn_panel_of_panel (by simp)
    all_goals simp [succeeded]

/-! ### The snapshot rule (O40) -/

section Settle

variable {l : List PointIndex} (hl : l.Nodup) (s : State)

include hl

theorem settlePoints_points (j : PointIndex) :
    (l.foldl settlePoint s).points[j] = if j ∈ l then settled s.points[j] else s.points[j] := by
  induction l generalizing s with
  | nil => simp
  | cons i l ih =>
    obtain ⟨hi, hl⟩ := List.nodup_cons.mp hl
    rw [List.foldl_cons, ih hl, settlePoint_points]
    by_cases e : j = i
    · subst e
      rw [if_neg hi, if_pos rfl, if_pos List.mem_cons_self]
    · rw [if_neg e]
      simp only [List.mem_cons, e, false_or]

theorem settlePoints_ownHorn (j : PointIndex) :
    (l.foldl settlePoint s).mirror.ownHorn[j] =
      if j ∈ l then hornSettled s.points[j] s.mirror.ownHorn[j] else s.mirror.ownHorn[j] := by
  induction l generalizing s with
  | nil => simp
  | cons i l ih =>
    obtain ⟨hi, hl⟩ := List.nodup_cons.mp hl
    rw [List.foldl_cons, ih hl, settlePoint_ownHorn, settlePoint_points]
    by_cases e : j = i
    · subst e
      rw [if_neg hi, if_pos rfl, if_pos List.mem_cons_self]
    · rw [if_neg e, if_neg e]
      simp only [List.mem_cons, e, false_or]

theorem settlePoints_register (g : FirstOutGroup) :
    (l.foldl settlePoint s).mirror.firstOut.get g =
      l.foldl (fun held i => registerSettled { owner := ownNumber s, index := i } s.points[i] g held)
        (s.mirror.firstOut.get g) := by
  induction l generalizing s with
  | nil => rfl
  | cons i l ih =>
    obtain ⟨hi, hl⟩ := List.nodup_cons.mp hl
    have hnumber : ownNumber (settlePoint s i) = ownNumber s := by simp [ownNumber]
    rw [List.foldl_cons, List.foldl_cons, ih hl, settlePoint_register, hnumber]
    refine List.foldl_ext _ _ _ fun held j hj => ?_
    have e : j ≠ i := fun e => hi (e ▸ hj)
    rw [settlePoint_points, if_neg e]

/-- The points of an ANNOUNCE that have not changed since leave the list, and no other (R89). -/
theorem settlePoints_list :
    (l.foldl settlePoint s).list =
      s.list.filter fun j => !(l.contains j && s.points[j].snapshot == some (pairOf s.points[j])) := by
  induction l generalizing s with
  | nil => simp
  | cons i l ih =>
    obtain ⟨hi, hl⟩ := List.nodup_cons.mp hl
    have hlater (j : PointIndex) :
        (l.contains j && (settlePoint s i).points[j].snapshot == some (pairOf (settlePoint s i).points[j])) =
        (l.contains j && s.points[j].snapshot == some (pairOf s.points[j])) := by
      by_cases e : j = i
      · subst e
        simp [hi]
      · rw [settlePoint_points, if_neg e]
    have hcons (j : PointIndex) : ((i :: l).contains j && s.points[j].snapshot == some (pairOf s.points[j])) =
        ((j == i && s.points[i].snapshot == some (pairOf s.points[i])) ||
          (l.contains j && s.points[j].snapshot == some (pairOf s.points[j]))) := by
      rw [List.contains_cons]
      by_cases e : j = i
      · subst e
        simp [hi]
      · rw [beq_false_of_ne e, Bool.false_or, Bool.false_and, Bool.false_or]
    simp only [List.foldl_cons, ih hl, hlater, hcons, settlePoint_list]
    by_cases hsame : s.points[i].snapshot = some (pairOf s.points[i])
    · rw [if_pos hsame, List.filter_filter]
      refine List.filter_congr fun j _ => ?_
      rw [hsame, beq_self_eq_true, Bool.and_true, Bool.not_or, Bool.and_comm]
      rfl
    · rw [if_neg hsame]
      refine List.filter_congr fun j _ => ?_
      rw [beq_false_of_ne hsame, Bool.and_false, Bool.false_or]

end Settle

/-- A catch-up that is taken or not, as this flag says (R94). -/
theorem catchUpIf_caughtUpFrom (taken : Bool) (u : State) :
    CaughtUpFrom taken u.list (ownNumber u) (fun i => u.points[i]) (fun i => u.mirror.ownHorn[i])
      u.mirror.firstOut.get (if taken then catchUp u else u) := by
  cases taken with
  | true => exact catchUp_caughtUpFrom u
  | false => exact caughtUpFrom_stands _ _ u

theorem catchUpAfter_announce (es : List AnnounceEntry) (u : State) :
    catchUpAfter (.announce es) u = if localMode u then catchUp u else u := by
  simp only [catchUpAfter, bodyKind, true_and]

/-- Settles O40: one pass over the points of the frame, then the refresh, then the catch-up. -/
theorem snapshotRule : Obligations.SnapshotRule := by
  intro s a es ha hbody hc hp hh hnodup hsnapshots
  have hreport : reportSuccess a.frame.body (successSteps a.frame s) =
      (es.map (·.index)).foldl settlePoint (successSteps a.frame s) := by
    rw [hbody]
    rfl
  have hreported : reported a s =
      refreshIf s.access.lineFault ((es.map (·.index)).foldl settlePoint (successSteps a.frame s)) := by
    rw [reported, hreport]
  have hnone (i : PointIndex) (hi : i ∉ es.map (·.index)) : s.points[i].snapshot = none :=
    Option.not_isSome_iff_eq_none.mp fun hsome => hi (hsnapshots i hsome)
  have hpoints (i : PointIndex) : (reported a s).points[i] = settled s.points[i] := by
    simp only [hreported, refreshIf_frame]
    rw [settlePoints_points hnodup]
    split
    · simp only [successSteps_frame]
    · next hi => rw [settled_of_none (hnone i hi)]; simp only [successSteps_frame]
  have hhorn (i : PointIndex) :
      (reported a s).mirror.ownHorn[i] = hornSettled s.points[i] s.mirror.ownHorn[i] := by
    simp only [hreported, refreshIf_frame]
    rw [settlePoints_ownHorn hnodup]
    split
    · simp only [successSteps_frame]
    · next hi => rw [hornSettled, hnone i hi]; simp only [successSteps_frame]
  have hregister (g : FirstOutGroup) : (reported a s).mirror.firstOut.get g =
      es.foldl (fun held e => registerSettled { owner := ownNumber s, index := e.index } s.points[e.index] g held)
        (s.mirror.firstOut.get g) := by
    simp only [hreported, refreshIf_frame]
    rw [settlePoints_register hnodup, List.foldl_map]
    rfl
  have hlist : ((es.map (·.index)).foldl settlePoint (successSteps a.frame s)).list =
      s.list.filter fun i => s.points[i].snapshot != some (pairOf s.points[i]) := by
    rw [settlePoints_list hnodup]
    refine List.filter_congr fun i _ => ?_
    simp only [successSteps_frame]
    by_cases hi : i ∈ es.map (·.index)
    · rw [List.contains_eq_mem, decide_eq_true hi, Bool.true_and]
      rfl
    · rw [List.contains_eq_mem, decide_eq_false hi, Bool.false_and, hnone i hi]
      rfl
  refine ⟨_, exec_attemptSuccess_taken ha hc hp hh, ?_, ?_, ?_⟩
  · rw [succeeded_list, reported_list, refreshed_congr (reportSuccess_settingsStand a s), hreport, hlist]
  · have hcaught := catchUpIf_caughtUpFrom (localMode (reported a s)) (reported a s)
    have hmode : localMode (succeeded a s) = localMode (reported a s) :=
      localMode_congr (by simp only [succeeded_eq, noteHorn_frame, catchUpAfter_frame])
        (by simp only [succeeded_eq, noteHorn_frame, catchUpAfter_frame])
    have hnumber : ownNumber (reported a s) = ownNumber s := by simp [ownNumber, reported]
    rw [← catchUpAfter_announce es, funext hpoints, funext hhorn, funext hregister, hnumber, ← succeeded_list,
      ← hmode] at hcaught
    exact caughtUpFrom_congr hcaught (by simp only [succeeded_eq, noteHorn_frame, hbody])
      (by simp only [succeeded_eq, noteHorn_frame, hbody]) (by simp only [succeeded_eq, noteHorn_frame, hbody])
  · simp only [succeeded_eq, noteHorn_frame, catchUpAfter_remote, hreported, refreshIf_frame]
    exact settleAll_remote _ _

/-! ### The outcome of a request (O41) -/

theorem requestSucceeded_refused (q : RequestQueue) : (requestSucceeded q).refused = q.refused := by
  unfold requestSucceeded
  (repeat' split) <;> rfl

/-- A head that was in flight goes at a success, or stays unmarked where an offer was merged into it meanwhile (R126). -/
theorem requestSucceeded_entries (q : RequestQueue) :
    (∀ e ∈ q.entries.head?, e.inFlight = true → e.merged = false → (requestSucceeded q).entries = q.entries.tail) ∧
    (∀ e ∈ q.entries.head?, e.inFlight = true → e.merged = true →
      (requestSucceeded q).entries = { e with inFlight := false, merged := false } :: q.entries.tail) ∧
    ((∀ e ∈ q.entries.head?, e.inFlight = false) → (requestSucceeded q).entries = q.entries) := by
  unfold requestSucceeded
  cases hentries : q.entries with
  | nil => exact ⟨fun _ he => by simp at he, fun _ he => by simp at he, fun _ => hentries⟩
  | cons e rest =>
    have hhead : ∀ e' ∈ (e :: rest).head?, e' = e := fun e' he' => (Option.some.inj he').symm
    refine ⟨fun e' he' hflight hmerged => ?_, fun e' he' hflight hmerged => ?_, fun hflight => ?_⟩
    · obtain rfl := hhead e' he'
      simp [hflight, hmerged]
    · obtain rfl := hhead e' he'
      simp [hflight, hmerged]
    · simp [hflight e rfl, hentries]

theorem requestFailed_refused (q : RequestQueue) : (requestFailed q).refused = q.refused := by
  unfold requestFailed
  (repeat' split) <;> rfl

/-- A head that was in flight stays unmarked at a failure (R126). -/
theorem requestFailed_entries (q : RequestQueue) :
    (∀ e ∈ q.entries.head?, e.inFlight = true →
      (requestFailed q).entries = { e with inFlight := false, merged := false } :: q.entries.tail) ∧
    ((∀ e ∈ q.entries.head?, e.inFlight = false) → (requestFailed q).entries = q.entries) := by
  unfold requestFailed
  cases hentries : q.entries with
  | nil => exact ⟨fun _ he => by simp at he, fun _ => hentries⟩
  | cons e rest =>
    refine ⟨fun e' he' hflight => ?_, fun hflight => ?_⟩
    · obtain rfl : e' = e := (Option.some.inj he').symm
      simp [hflight]
    · simp [hflight e rfl, hentries]

theorem eq_silence_of_bodyKind {b : Body} (h : bodyKind b = .silence) : b = .silence := by
  cases b <;> simp_all [bodyKind]

theorem bodyKind_of_isRequest {b : Body} (h : isRequest b = true) : bodyKind b ≠ .announce ∧ bodyKind b ≠ .depart := by
  cases b <;> simp_all [isRequest, bodyKind]

/-- A SILENCE that succeeds clears every horn flag (R109). -/
theorem succeeded_silence {a : Attempt} (hsilence : bodyKind a.frame.body = .silence) (s : State) :
    (∀ p i : Fin 16, (succeeded a s).mirror.remote[p][i] = { s.mirror.remote[p][i] with horn := false }) ∧
      ∀ i : Fin 16, (succeeded a s).mirror.ownHorn[i] = false := by
  have hbody := eq_silence_of_bodyKind hsilence
  have hmirror : (succeeded a s).mirror = (silencePublication s).mirror := by
    rw [succeeded_eq, catchUpAfter_of_not_announce (by rw [hsilence]; decide)]
    simp only [noteHorn_frame, reported, refreshIf_frame, hbody, reportSuccess]
    rfl
  rw [hmirror]
  exact ⟨fun p i => by simp only [silencePublication, get_ofFn_fin], fun i => by simp [silencePublication]⟩

/-- Settles O41. -/
theorem requestOutcomes : Obligations.RequestOutcomes := by
  intro s a ha hrequest
  have hkinds := bodyKind_of_isRequest hrequest
  obtain ⟨hpoints, -, hmirror⟩ := succeeded_points_mirror hkinds.1 hkinds.2 s
  have hsucceeded := succeeded_queue a s
  have hfailed := failed_queue a s
  rw [if_pos hrequest] at hsucceeded hfailed
  refine ⟨fun hc hp hh => ⟨_, exec_attemptSuccess_taken ha hc hp hh, ?_⟩,
    fun hc => ⟨_, exec_attemptFailure_taken ha hc, ?_⟩⟩
  · obtain ⟨hgoes, hstays, hother⟩ := requestSucceeded_entries s.queue
    rw [hsucceeded]
    exact ⟨requestSucceeded_refused _, hgoes, hstays, hother, fun h => succeeded_silence h s, hmirror, hpoints⟩
  · rw [hfailed]
    exact ⟨requestFailed_refused _, requestFailed_entries s.queue⟩

/-! ### The failure of an attempt (O42) -/

/-- The state at the failure before the catch-up (R53, R90). -/
def failureReported (a : Attempt) (s : State) : State := reportFailure a.frame.body (failureSteps a s)

theorem failed_eq (a : Attempt) (s : State) :
    failed a s = noteHorn (catchUpFailed s a.frame.body (failureReported a s)) := rfl

theorem failed_localMode (a : Attempt) (s : State) : localMode (failed a s) = localMode (failureReported a s) :=
  localMode_congr (by simp only [failed_eq, noteHorn_frame, catchUpFailed_frame])
    (by simp only [failed_eq, noteHorn_frame, catchUpFailed_frame])

theorem failed_eq_catchUp (a : Attempt) (s : State) :
    failed a s = noteHorn
      (if localMode (failed a s) && (bodyKind a.frame.body == .announce || !localMode s) then catchUp (failureReported a s)
      else failureReported a s) := by
  rw [failed_localMode]
  rfl

theorem halvesOfFailure_of_collision {a : Attempt} {h : Nat} (hc : a.collision = some h) (decided : Nat) :
    halvesOfFailure a decided = if decided ≤ h ∧ h < 2 * frameLength a.frame.body then 1 else 0 := by
  simp only [halvesOfFailure, hc]

theorem failed_pins (a : Attempt) (s : State) :
    (failed a s).pins = { s.pins with lrx := s.pins.lrx.drop (halvesOfFailure a s.line.decided) } := by
  simp only [failed, noteHorn_frame, catchUpFailed_frame, reportFailure_frame]
  rfl

/-- What a failure reports leaves the Access Controller as it is, but that a DEPART may stop the presence timer (R67, R68). -/
theorem reportFailure_access (b : Body) (s : State) :
    (reportFailure b s).access = { s.access with
      presenceTimer := (reportFailure b s).access.presenceTimer
      presencePending := (reportFailure b s).access.presencePending } := by
  cases b with
  | depart =>
    simp only [reportFailure, departFailed]
    split
    · rw [leaveWarning_access]
      split <;> rfl
    · split <;> rfl
  | _ => rfl

theorem reportFailure_stands {b : Body} (hdepart : bodyKind b ≠ .depart) (s : State) :
    (reportFailure b s).access = s.access ∧ (reportFailure b s).member = s.member ∧
      (reportFailure b s).mirror = s.mirror := by
  cases b <;> simp_all [reportFailure, bodyKind]

/-- The failure of an ANNOUNCE discards every snapshot, and no other touches a record (R90). -/
theorem reportFailure_points {b : Body} (hdepart : bodyKind b ≠ .depart) (s : State) (i : PointIndex) :
    (reportFailure b s).points[i] =
      { s.points[i] with snapshot := if bodyKind b = .announce then none else s.points[i].snapshot } := by
  cases b with
  | announce => exact get_ofFn_fin ..
  | depart => exact absurd rfl hdepart
  | _ => rfl

theorem failed_access (a : Attempt) (s : State) :
    (failed a s).access = (failureReported a s).access := by
  simp only [failed_eq, noteHorn_frame, catchUpFailed_frame]

theorem failureSteps_access (a : Attempt) (s : State) :
    (failureSteps a s).access =
      { s.access with
        attempt := none, failedCount := failedAgain s.access.failedCount
        lineFault := s.access.lineFault || s.access.failedCount == 15
        rotation := 0, unheardWait := !a.heard } := rfl

/-- What stands at a failure before the catch-up. -/
theorem failureReported_number_list (a : Attempt) (s : State) :
    ownNumber (failureReported a s) = ownNumber s ∧ (failureReported a s).list = s.list := by
  simp [failureReported, ownNumber]

/-- The catch-up of a failed attempt that was no DEPART (R90, R94). -/
theorem failed_caughtUpFrom {a : Attempt} (hdepart : bodyKind a.frame.body ≠ .depart) (s : State) :
    CaughtUpFrom (localMode (failed a s) && (bodyKind a.frame.body == .announce || !localMode s)) s.list (ownNumber s)
      (fun i =>
        { s.points[i] with snapshot := if bodyKind a.frame.body = .announce then none else s.points[i].snapshot })
      (fun i => s.mirror.ownHorn[i]) s.mirror.firstOut.get (failed a s) := by
  have hpoints (i : PointIndex) : (failureReported a s).points[i] =
      { s.points[i] with snapshot := if bodyKind a.frame.body = .announce then none else s.points[i].snapshot } := by
    rw [failureReported, reportFailure_points hdepart]
    simp only [failureSteps_frame]
  have hmirror : (failureReported a s).mirror = s.mirror := by
    rw [failureReported, (reportFailure_stands hdepart _).2.2]
    simp only [failureSteps_frame]
  obtain ⟨hnumber, hlist⟩ := failureReported_number_list a s
  have hcaught := catchUpIf_caughtUpFrom
    (localMode (failureReported a s) && (bodyKind a.frame.body == .announce || !localMode s)) (failureReported a s)
  rw [funext hpoints, hmirror, hnumber, hlist, ← failed_localMode] at hcaught
  have hfailed := failed_eq_catchUp a s
  have hmirror := congrArg State.mirror hfailed
  simp only [noteHorn_frame] at hmirror
  exact caughtUpFrom_congr hcaught ((congrArg State.points hfailed).trans (by simp only [noteHorn_frame]))
    (congrArg MirrorTable.ownHorn hmirror) (congrArg MirrorTable.firstOut hmirror)

/-- Settles O42. -/
theorem failureStepsAreTaken : Obligations.FailureStepsAreTaken := by
  intro s a ha hc
  have hline := failed_line a s
  have haccess := failed_access a s
  have hreport := reportFailure_access a.frame.body (failureSteps a s)
  rw [failureSteps_access] at hreport
  have hremote : (failed a s).mirror.remote = s.mirror.remote := by
    simp only [failed, noteHorn_frame, catchUpFailed_remote, reportFailure_remote, failureSteps_frame]
  have hlist : (failed a s).list = s.list := by
    simp only [failed, noteHorn_frame, catchUpFailed_frame, reportFailure_frame, failureSteps_frame]
  refine ⟨_, exec_attemptFailure_taken ha hc, by rw [hline], fun h hh => ?_, ?_, ?_, ?_, hlist, hremote, fun hdepart => ?_⟩
  · have hhalves := halvesOfFailure_of_collision (Option.mem_def.mp hh) s.line.decided
    refine ⟨halvesOfFailure a s.line.decided, ?_, ?_, failed_pins a s, fun hbelow => ?_⟩
    · rw [hhalves]
      split <;> decide
    · rw [hhalves]
      split
      · next hleft => exact ⟨fun _ => hleft, fun _ => rfl⟩
      · next hleft => exact ⟨fun hzero => absurd hzero (by decide), fun h => absurd h hleft⟩
    · rw [hline, hearPins_heardLine _ hbelow]
  · rw [haccess, failureReported, hreport]
    have hlt : min (s.access.failedCount.val + 1) 16 < 17 := by omega
    exact Nat.mod_eq_of_lt hlt
  · rw [(failed_access_values a s).2, Bool.or_eq_true, beq_iff_eq]
  · rw [haccess, failureReported, hreport]
  · obtain ⟨haccessStands, hmember, hmirror⟩ := reportFailure_stands hdepart (failureSteps a s)
    refine ⟨?_, ?_, ?_, fun hrequest => ?_, ?_⟩
    · rw [haccess, failureReported, haccessStands, failureSteps_access]
    · rw [haccess, failureReported, haccessStands, failureSteps_access]
    · exact failed_caughtUpFrom hdepart s
    · rw [failed_queue, hrequest, if_neg Bool.false_ne_true]
    · refine state_eq_of_fields ?_ ?_ rfl ?_ rfl rfl ?_ ?_ (mirror_eq_of_remote hremote) ?_ rfl ?_
        (noteHorn_panel_of_panel ?_) rfl ?_
      all_goals simp [failed, hmember]

/-! ### What a HELLO or a DEPART does to the membership (O43) -/

section Member

variable (s : State)

theorem presenceRule_eq : presenceRule s = if ∃ p : Fin 16, isPresent s p = true then .group else .solo := by
  have hany : anyPresent s = true ↔ ∃ p : Fin 16, isPresent s p = true := by simp [anyPresent]
  unfold presenceRule
  by_cases h : ∃ p : Fin 16, isPresent s p = true
  · rw [if_pos h, if_pos (hany.mpr h)]
  · rw [if_neg h, if_neg fun hpresent => h (hany.mp hpresent)]

/-- With no supply warning a listen window begins with no catch-up (R61). -/
theorem enterListen_points_mirror (h : s.startup.supplyWarning = false) :
    (enterListen s).points = s.points ∧ (enterListen s).mirror = s.mirror := by
  simp [enterListen, stopPresence, h]

theorem leaveWarning_points_mirror (h : s.startup.supplyWarning = false) :
    (leaveWarning s).points = s.points ∧ (leaveWarning s).mirror = s.mirror := by
  unfold leaveWarning
  split
  · exact enterListen_points_mirror s h
  · exact ⟨rfl, rfl⟩

theorem departSucceeded_points_mirror (h : s.startup.supplyWarning = false ∨ s.member.heldRecovery = false) :
    (departSucceeded s).points = s.points ∧ (departSucceeded s).mirror = s.mirror := by
  unfold departSucceeded
  split
  · next hheld =>
    have hwarning := h.resolve_right fun hno => Bool.false_ne_true (hno.symm.trans hheld)
    exact enterListen_points_mirror (enterDeparted s) hwarning
  · exact ⟨rfl, rfl⟩

theorem departFailed_points_mirror (h : s.startup.supplyWarning = false ∨ s.member.heldRecovery = false) :
    (departFailed s).points = s.points ∧ (departFailed s).mirror = s.mirror := by
  unfold departFailed
  split
  · next hheld =>
    exact leaveWarning_points_mirror s (h.resolve_right fun hno => Bool.false_ne_true (hno.symm.trans hheld))
  · dsimp only
    split <;> exact ⟨rfl, rfl⟩

/-- A DEPART that fails with a recovery held is withdrawn (R68). -/
theorem departFailed_held {s : State} (h : s.member.heldRecovery = true) : departFailed s = leaveWarning s := if_pos h

/-- A DEPART that fails for the first, second or third time is counted (R67). -/
theorem departFailed_counted {s : State} (h : s.member.heldRecovery = false) (hlt : s.member.departFailures.val < 3) :
    departFailed s = { s with member := { s.member with departFailures := s.member.departFailures + 1 } } := by
  have hcount : Fin.ofNat 5 (min (s.member.departFailures.val + 1) 4) = s.member.departFailures + 1 := by
    apply Fin.ext
    simp only [Fin.val_ofNat, Fin.val_add, Fin.val_one]
    omega
  have hheld : ¬s.member.heldRecovery = true := by simp [h]
  have hleft : ¬4 ≤ s.member.departFailures.val + 1 := by omega
  rw [departFailed, if_neg hheld, if_neg hleft, hcount]

/-- At the fourth failure of a DEPART the station gives up and is DEPARTED (R67). -/
theorem departFailed_givenUp {s : State} (h : s.member.heldRecovery = false) (hle : 3 ≤ s.member.departFailures.val) :
    ∃ m, departFailed s = enterDeparted { s with member := m } := by
  have hheld : ¬s.member.heldRecovery = true := by simp [h]
  have hlast : 4 ≤ s.member.departFailures.val + 1 := by omega
  rw [departFailed, if_neg hheld, if_pos hlast]
  exact ⟨_, rfl⟩

end Member

theorem eq_depart_of_bodyKind {b : Body} (h : bodyKind b = .depart) : b = .depart := by
  cases b <;> simp_all [bodyKind]

theorem succeeded_member (a : Attempt) (s : State) :
    (succeeded a s).member = (reportSuccess a.frame.body (successSteps a.frame s)).member := by
  simp only [succeeded, noteHorn_frame, catchUpAfter_frame, refreshIf_frame]

theorem failed_member (a : Attempt) (s : State) : (failed a s).member = (failureReported a s).member := by
  simp only [failed_eq, noteHorn_frame, catchUpFailed_frame]

theorem isRequest_of_hello_or_depart {b : Body} (h : bodyKind b = .hello ∨ bodyKind b = .depart) : isRequest b = false := by
  cases b <;> simp_all [isRequest, bodyKind]

theorem reportSuccess_hello {b : Body} (h : bodyKind b = .hello) (s : State) :
    (reportSuccess b s).member = { s.member with helloQueued := false } := by
  cases b with
  | hello m => simp only [reportSuccess, helloSucceeded, fullRefresh_frame]
  | _ => cases h

/-- A HELLO that succeeds is dequeued, and every enabled own point is listed (R64). -/
theorem succeeded_hello {a : Attempt} (h : bodyKind a.frame.body = .hello) (s : State) :
    (succeeded a s).member = { s.member with helloQueued := false } ∧ (succeeded a s).list = refreshed s s.list ∧
      (succeeded a s).queue = s.queue := by
  have hannounce : bodyKind a.frame.body ≠ .announce := by rw [h]; decide
  have hsteps : refreshed (successSteps a.frame s) (successSteps a.frame s).list = refreshed s s.list := rfl
  refine ⟨?_, ?_, ?_⟩
  · rw [succeeded_member, reportSuccess_hello h]
    simp only [successSteps_frame]
  · rw [succeeded_list, reported_list, refreshed_congr (reportSuccess_settingsStand a s), reportSuccess_list hannounce,
      if_pos h, hsteps, refreshed_refreshed, ite_self]
  · rw [succeeded_queue, isRequest_of_hello_or_depart (.inl h), if_neg Bool.false_ne_true]

/-- A DEPART that succeeds takes the station to DEPARTED, and on to LISTEN if a recovery is held (R67, R68). -/
theorem departSucceeded_own (s : State) :
    (s.member.heldRecovery = false → (departSucceeded s).member.own = .departed) ∧
    (s.member.heldRecovery = true → s.startup.supplyWarning = false →
      (departSucceeded s).member.own = .listen ∧ (departSucceeded s).member.listenTimer = .started) ∧
    (s.startup.supplyWarning = false ∨ s.member.heldRecovery = false →
      (departSucceeded s).member.departPending = false ∧ (departSucceeded s).member.helloQueued = false ∧
      (departSucceeded s).member.heldRecovery = false ∧ (departSucceeded s).member.returnState = none) := by
  have hstartup : (enterDeparted s).startup = s.startup := rfl
  rw [departSucceeded_member, enterListen_member, enterDeparted_member, hstartup]
  cases s.member.heldRecovery <;> cases s.startup.supplyWarning <;> simp

/-- The state after a DEPART that succeeded. -/
theorem succeeded_depart {a : Attempt} (h : bodyKind a.frame.body = .depart) (s : State) :
    (succeeded a s).member = (departSucceeded (successSteps a.frame s)).member ∧
      (succeeded a s).points = (departSucceeded (successSteps a.frame s)).points ∧
      (succeeded a s).mirror = (departSucceeded (successSteps a.frame s)).mirror := by
  have hannounce : bodyKind a.frame.body ≠ .announce := by rw [h]; decide
  rw [succeeded_eq, catchUpAfter_of_not_announce hannounce, reported, eq_depart_of_bodyKind h]
  simp only [noteHorn_frame, refreshIf_frame]
  exact ⟨rfl, rfl, rfl⟩

/-- The DEPART is withdrawn with no supply warning: the station is where it came from (R68). -/
theorem leaveWarning_outcome {s : State} (h : s.startup.supplyWarning = false) :
    (leaveWarning s).member.departPending = false ∧ (leaveWarning s).member.heldRecovery = false ∧
      (leaveWarning s).member.departFailures = s.member.departFailures ∧
      (s.member.returnState = some .listen →
        (leaveWarning s).member.own = .listen ∧
        (leaveWarning s).access.presenceTimer = { running := false, ticks := 0 } ∧
        (leaveWarning s).access.presencePending = false) ∧
      (s.member.returnState = some .group →
        (leaveWarning s).member.own = (if ∃ p : Fin 16, isPresent s p = true then .group else .solo) ∧
        (leaveWarning s).access = s.access) := by
  have hquiet : ¬s.startup.supplyWarning = true := by simp [h]
  rw [leaveWarning_member, leaveWarning_access, enterListen_member, if_neg hquiet, ← presenceRule_eq]
  by_cases hreturn : s.member.returnState = some .listen
  · rw [if_pos hreturn, if_pos hreturn]
    exact ⟨rfl, rfl, rfl, fun _ => ⟨rfl, rfl, rfl⟩, fun hgroup => by rw [hreturn] at hgroup; cases hgroup⟩
  · rw [if_neg hreturn, if_neg hreturn]
    exact ⟨rfl, rfl, rfl, fun hlisten => absurd hlisten hreturn, fun _ => ⟨rfl, rfl⟩⟩

theorem failureReported_depart {a : Attempt} (h : bodyKind a.frame.body = .depart) (s : State) :
    failureReported a s = departFailed (failureSteps a s) := by
  rw [failureReported, eq_depart_of_bodyKind h]
  rfl

/-- The catch-up of a DEPART that failed (R90, R94). -/
theorem failed_depart_caughtUp {a : Attempt} (h : bodyKind a.frame.body = .depart) {s : State}
    (hquiet : s.startup.supplyWarning = false ∨ s.member.heldRecovery = false) : CaughtUp s (failed a s) := by
  obtain ⟨hpoints, hmirror⟩ := departFailed_points_mirror (failureSteps a s) (by simpa using hquiet)
  rw [← failureReported_depart h] at hpoints hmirror
  obtain ⟨hnumber, hlist⟩ := failureReported_number_list a s
  have hkind : (bodyKind a.frame.body == .announce) = false := by rw [h]; rfl
  have hfailed := failed_eq_catchUp a s
  have hcaught := catchUpIf_caughtUpFrom
    (localMode (failed a s) && (bodyKind a.frame.body == .announce || !localMode s)) (failureReported a s)
  rw [hpoints, hmirror, hnumber, hlist, hkind, Bool.false_or, Bool.and_comm] at hcaught
  rw [hkind, Bool.false_or, Bool.and_comm] at hfailed
  have hmirrorFailed := congrArg State.mirror hfailed
  simp only [noteHorn_frame] at hmirrorFailed
  exact caughtUpFrom_congr hcaught ((congrArg State.points hfailed).trans (by simp only [noteHorn_frame]))
    (congrArg MirrorTable.ownHorn hmirrorFailed) (congrArg MirrorTable.firstOut hmirrorFailed)

/-- Settles O43. -/
theorem helloAndDepartOutcomes : Obligations.HelloAndDepartOutcomes := by
  intro s a ha
  refine ⟨fun hkind hc hp hh => ⟨_, exec_attemptSuccess_taken ha hc hp hh, succeeded_hello hkind s⟩,
    fun hkind hc hp hh => ⟨_, exec_attemptSuccess_taken ha hc hp hh, ?_⟩,
    fun hkind hc => ⟨_, exec_attemptFailure_taken ha hc, ?_⟩⟩
  · have haccess := (succeeded_access a s).trans (reportSuccess_access ..)
    rw [if_pos hkind] at haccess
    obtain ⟨hdeparted, hlisten, hquiet⟩ := departSucceeded_own (successSteps a.frame s)
    obtain ⟨hmember, hpoints, hmirror⟩ := succeeded_depart hkind s
    rw [hmember, hpoints, hmirror]
    refine ⟨by rw [haccess]; rfl, by rw [haccess], hdeparted, hlisten, fun h => ?_, ?_⟩
    · obtain ⟨hpending, hhello, hheld, hreturn⟩ := hquiet h
      obtain ⟨hpoints, hmirror⟩ := departSucceeded_points_mirror (successSteps a.frame s) h
      exact ⟨hpending, hhello, hheld, hreturn, hpoints, hmirror⟩
    · rw [succeeded_queue, isRequest_of_hello_or_depart (.inr hkind), if_neg Bool.false_ne_true]
  · have hreported := failureReported_depart hkind s
    have hmember := failed_member a s
    have haccess := failed_access a s
    rw [hreported] at hmember haccess
    have hlist : (failed a s).list = s.list := by
      simp only [failed, noteHorn_frame, catchUpFailed_frame, reportFailure_frame, failureSteps_frame]
    have hqueue : (failed a s).queue = s.queue := by
      rw [failed_queue, isRequest_of_hello_or_depart (.inr hkind), if_neg Bool.false_ne_true]
    have hremote : (failed a s).mirror.remote = s.mirror.remote := by
      simp only [failed, noteHorn_frame, catchUpFailed_remote, reportFailure_remote, failureSteps_frame]
    refine ⟨hqueue, hlist, fun hheld hlt => ?_, fun hheld hle => ?_, fun hheld hwarning => ?_, fun hquiet => ?_, ?_⟩
    · rw [hmember, haccess, departFailed_counted (s := failureSteps a s) hheld hlt, failureSteps_access]
      exact ⟨rfl, rfl, rfl⟩
    · obtain ⟨m, hgivenUp⟩ := departFailed_givenUp (s := failureSteps a s) hheld hle
      rw [hmember, haccess, hgivenUp]
      exact ⟨rfl, rfl, rfl, rfl⟩
    · have hwithdrawn := leaveWarning_outcome (s := failureSteps a s) hwarning
      rw [hmember, haccess, departFailed_held (s := failureSteps a s) hheld]
      obtain ⟨hpending, hrecovery, hfailures, hlisten, hgroup⟩ := hwithdrawn
      refine ⟨hpending, hrecovery, hfailures, hlisten, fun hreturn => ?_⟩
      obtain ⟨hown, haccess⟩ := hgroup hreturn
      rw [haccess, failureSteps_access]
      exact ⟨hown, rfl, rfl⟩
    · exact failed_depart_caughtUp hkind hquiet
    · refine state_eq_of_fields ?_ ?_ rfl hlist rfl rfl rfl ?_ (mirror_eq_of_remote hremote) ?_ hqueue ?_
        (noteHorn_panel_of_panel ?_) rfl ?_
      all_goals simp [failed]

end Sys2Proof.Machine
end

section
/-! PROOFS. Timers that reach their length, the supply, the cells, the tone instants and what the panel shows (O44 to
O50). -/

namespace Sys2Proof.Machine

open Sys2Proof.Safety

/-! ### Timers that reach their length (O44, O45) -/

theorem expired_iff (length : Nat) (t : Timer) : expired length t = true ↔ t = { running := true, ticks := length } := by
  obtain ⟨running, ticks⟩ := t
  simp [expired]

/-- Settles O44. -/
theorem presenceAndListenTimersExpire : Obligations.PresenceAndListenTimersExpire := by
  intro s
  refine ⟨fun h => ⟨_, if_pos ((expired_iff _ _).mpr h), rfl⟩, fun h => if_neg fun hexpired => h ((expired_iff _ _).mp hexpired),
    fun hown h => ⟨_, if_pos ⟨hown, (expired_iff _ _).mpr h⟩, ?_, ?_, catchUpFrom_caughtUp rfl rfl rfl rfl rfl, ?_⟩,
    fun h => if_neg fun hexpired => ?_⟩
  · rw [← presenceRule_eq]
    simp only [catchUpFrom_frame]
    rfl
  · simp only [catchUpFrom_frame]
    rfl
  · refine state_eq_of_fields ?_ ?_ rfl ?_ ?_ rfl rfl ?_ (mirror_eq_of_remote ?_) ?_ ?_ ?_ ?_ ?_ ?_
    all_goals simp [startPresence]
  · obtain ⟨hown, htimer⟩ := hexpired
    exact h.elim (· hown) (· ((expired_iff _ _).mp htimer))

theorem lostLength_pos (s : State) : 0 < lostLength s := by
  unfold lostLength presencePeriod
  cases s.startup.period <;> decide

theorem exec_lostTimerExpiry_stands {p : StationNo} {s : State} (h : s.peers[p].silence.ticks ≠ lostLength s) :
    exec (.lostTimerExpiry p) s = .next s := by
  refine if_neg fun hexpired => h ?_
  rw [(expired_iff _ _).mp hexpired.2]

/-- The own state once a PRESENT peer is lost: GROUP goes to SOLO where no peer is left (R65). -/
theorem lostPresence_member_of_present {p : StationNo} {u : State} (hsolo : u.member.own ≠ .solo) :
    (lostPresence p u).member =
      { u.member with
        own := if u.member.own = .group ∧ ∀ q : Fin 16, isPresent (lostPresence p u) q = false then .solo
          else u.member.own } := by
  have hpresent : (∀ q : Fin 16, isPresent (lostPresence p u) q = false) ↔ ¬∃ q : Fin 16, isPresent u q = true := by
    have hsame : isPresent (lostPresence p u) = isPresent u := isPresent_congr (by simp) (by simp [ownNumber])
    simp [hsame]
  rw [lostPresence_member]
  by_cases hgroup : u.member.own = .group
  · rw [if_pos (.inl hgroup), presenceRule_eq]
    by_cases hany : ∃ q : Fin 16, isPresent u q = true
    · rw [if_pos hany, if_neg fun h => hpresent.mp h.2 hany, hgroup]
    · rw [if_neg hany, if_pos ⟨hgroup, hpresent.mpr hany⟩]
  · rw [if_neg fun h => h.elim hgroup hsolo, if_neg fun h => hgroup h.1]

/-- Settles O45. -/
theorem lostTimerMakesThePeerLost : Obligations.LostTimerMakesThePeerLost := by
  intro p s hpeer hstate hsolo
  refine ⟨exec_lostTimerExpiry_stands, fun h hsender hframe => ?_, fun htimer => ?_⟩
  · have hears : Hears { header := h, body := .silence } s := ⟨hframe, rfl, by rw [hsender]; exact hpeer⟩
    have hpeers : (takeFrame { header := h, body := .silence } s).peers[p] = entryAfter .silence h := by
      rw [takeFrame_of_hears hears, takePeerFrame_peers, ← hsender]
      simp only [hearFrame_frame, get_set_fin, if_true, bodyKind]
    refine ⟨_, exec_receiveCommand { header := h, body := .silence } s, by rw [hpeers]; rfl, exec_lostTimerExpiry_stands ?_⟩
    rw [hpeers]
    exact (lostLength_pos _).ne
  · obtain ⟨u, hu⟩ : ∃ u : State,
        u = { s with peers := s.peers.set p { s.peers[p] with state := .lost, silence := .stopped } } := ⟨_, rfl⟩
    have hpresent : isPresent s p = true := by
      rw [isPresent, hstate, bne_iff_ne.mpr hpeer]
      rfl
    have hexec : exec (.lostTimerExpiry p) s = .next (lostPresence p u) := by
      rw [hu]
      exact if_pos ⟨hpresent, (expired_iff _ _).mpr htimer⟩
    have hpeers : (lostPresence p u).peers = s.peers.set p { s.peers[p] with state := .lost, silence := .stopped } := by
      rw [hu]
      simp
    have hmirror : (lostPresence p u).mirror.remote = (markStale p s.mirror).remote := by
      rw [hu]
      simp [lostPresence]
    have hnotSolo : u.member.own ≠ .solo := fun h => by
      rw [hu] at h
      exact absurd ((hsolo.1 h).symm.trans (anyPresent_of_peer hpeer hstate)) Bool.false_ne_true
    refine ⟨_, hexec, ?_, fun q hq => ?_, fun q i => ?_, ?_, ?_, ?_, ?_⟩
    · rw [hpeers, get_set_fin, if_pos rfl]
      rfl
    · rw [hpeers, get_set_fin, if_neg hq]
    · rw [hmirror, markStale_remote]
      by_cases hq : q = p
      · rw [if_pos hq, if_pos hq, hq]
      · rw [if_neg hq, if_neg hq]
    · rw [lostPresence_queue, hu]
      rfl
    · rw [lostPresence_member_of_present hnotSolo, hu]
    · exact caughtUp_congr (lostPresence_caughtUp p u) (by rw [hu]; rfl) (by rw [hu]) (by rw [hu]; rfl) (by rw [hu])
        (by rw [hu]) (by rw [hu]) rfl rfl rfl rfl
    · refine state_eq_of_fields ?_ ?_ rfl ?_ ?_ ?_ rfl rfl rfl ?_ rfl ?_ ?_ ?_ ?_
      all_goals subst hu; simp

/-! ### The supply (O46, O47) -/

/-- A supply warning catches up where local publication mode begins (R66, R94). -/
theorem supplyWarned_caughtUp (s : State) : CaughtUp s (supplyWarned s) := by
  unfold supplyWarned
  split
  · exact catchUpFrom_caughtUp rfl rfl rfl rfl rfl
  · exact catchUpFrom_caughtUp rfl rfl rfl rfl rfl
  · exact catchUpFrom_caughtUp rfl rfl rfl rfl rfl
  · exact caughtUp_of_stands id rfl rfl rfl
  · exact caughtUp_of_stands id rfl rfl rfl
  · exact caughtUp_of_stands id rfl rfl rfl
  · exact caughtUp_of_stands id rfl rfl rfl

/-- Settles O46. -/
theorem supplyWarningEntersWarning : Obligations.SupplyWarningEntersWarning := by
  intro s hreset hwarning
  obtain ⟨u, hu⟩ : ∃ u : State, u = { s with startup := { s.startup with supplyWarning := true } } := ⟨_, rfl⟩
  have hexec : exec .supplyWarningEvent s = .next (supplyWarned u) := by
    rw [hu]
    exact if_pos (by simp [hreset, hwarning])
  have hmember : u.member = s.member := by rw [hu]
  refine ⟨_, hexec, fun hjoined => ?_, fun hown => ?_, fun hown => ?_, ?_, ?_⟩
  · rw [supplyWarned_member, hmember, if_pos hjoined, enterWarning_member, hmember]
    rfl
  · rw [supplyWarned_member, hmember, if_neg (by simp [hown]), if_pos hown]
  · rw [supplyWarned_member, hmember, if_neg (by rcases hown with h | h | h <;> simp [h]),
      if_neg (by rcases hown with h | h | h <;> simp [h])]
  · exact caughtUp_congr (supplyWarned_caughtUp u) (by rw [hu]; rfl) (by rw [hu]) (by rw [hu]; rfl) (by rw [hu])
      (by rw [hu]) (by rw [hu]) rfl rfl rfl rfl
  · refine state_eq_of_fields ?_ ?_ rfl ?_ ?_ ?_ rfl ?_ (mirror_eq_of_remote ?_) ?_ ?_ ?_ ?_ ?_ ?_
    all_goals subst hu; simp

/-- With no supply warning left a recovery touches no own point and no row (R68). -/
theorem supplyRecovered_points_mirror {s : State} (h : s.startup.supplyWarning = false) :
    (supplyRecovered s).points = s.points ∧ (supplyRecovered s).mirror = s.mirror := by
  unfold supplyRecovered
  split
  · split
    · exact ⟨rfl, rfl⟩
    · exact leaveWarning_points_mirror s h
  · exact enterListen_points_mirror s h
  all_goals exact ⟨rfl, rfl⟩

/-- Settles O47. -/
theorem supplyRecoveryLeavesWarning : Obligations.SupplyRecoveryLeavesWarning := by
  intro s hreset hwarning
  obtain ⟨u, hu⟩ : ∃ u : State, u = { s with startup := { s.startup with supplyWarning := false } } := ⟨_, rfl⟩
  have hexec : exec .supplyRecoveryEvent s = .next (supplyRecovered u) := by
    rw [hu]
    exact if_pos (by simp [hreset, hwarning])
  have hmember : u.member = s.member := by rw [hu]
  have haccess : u.access = s.access := by rw [hu]
  have hflight : departInFlight u = departInFlight s := by rw [hu]; rfl
  have hpresent : isPresent u = isPresent s := by rw [hu]; rfl
  have hquiet : u.startup.supplyWarning = false := by rw [hu]
  obtain ⟨hpoints, hmirror⟩ := supplyRecovered_points_mirror hquiet
  refine ⟨_, hexec, fun hown hsent => ?_, fun hown hsent hreturn => ?_, fun hown => ?_, fun hown hdeparted => ?_, ?_⟩
  · rw [supplyRecovered_member, supplyRecovered_access, hmember, haccess, hflight, if_pos hown, if_pos hown, if_pos hsent,
      if_pos hsent]
    exact ⟨rfl, rfl⟩
  · have hnot : ¬departInFlight s = true := by simp [hsent]
    have hgroup : ¬s.member.returnState = some .listen := by simp [hreturn]
    rw [supplyRecovered_member, supplyRecovered_access, hmember, haccess, hflight, if_pos hown, if_pos hown, if_neg hnot,
      if_neg hnot, leaveWarning_member, leaveWarning_access, hmember, haccess, if_neg hgroup, if_neg hgroup,
      presenceRule_eq, hpresent]
    exact ⟨rfl, rfl⟩
  · have hlisten : supplyRecovered u = enterListen u := by
      unfold supplyRecovered
      rcases hown with hdeparted | ⟨hown, hsent, hreturn⟩
      · rw [hmember, hdeparted]
      · simp only [hmember, hown, hflight, hsent, Bool.false_eq_true, if_false, leaveWarning, hreturn]
    have hnot : ¬u.startup.supplyWarning = true := by simp [hquiet]
    rw [hlisten, enterListen_member, enterListen_access, if_neg hnot, hmember, haccess]
    exact ⟨rfl, rfl⟩
  · rw [supplyRecovered_member, supplyRecovered_access, hmember, haccess, if_neg hown, if_neg hown, if_neg hdeparted,
      if_neg hdeparted]
    exact ⟨rfl, rfl⟩
  · refine state_eq_of_fields ?_ ?_ ?_ ?_ ?_ rfl rfl ?_ ?_ ?_ ?_ ?_ ?_ ?_ ?_
    all_goals subst hu; simp [hpoints, hmirror]

/-! ### The cells of a common period (O48) -/

theorem cellValue_loading {s : State} (h : loading s = true) (seg : Fin 35) (common : Fin 8) :
    cellValue s seg common = false := if_pos h

theorem cellValue_test {s : State} (hl : loading s = false) (h : s.keys.testHeld = true) (seg : Fin 35) (common : Fin 8) :
    cellValue s seg common = true := by
  simp [cellValue, hl, h]

theorem cellValue_pattern {s : State} (hl : loading s = false) (h : s.keys.testHeld = false) (seg : Fin 35)
    (common : Fin 8) : cellValue s seg common = patternOn (cellPattern s seg common) (wheelStep s.time.wheel) := by
  simp [cellValue, hl, h]

/-- The cell of a point (Table 74). -/
theorem cellPattern_point (s : State) {p i : Fin 16} {common : Fin 8} (h : i.val % 8 = common.val) :
    cellPattern s (Fin.ofNat 35 (2 * p.val + i.val / 8)) common =
      pointPattern (rowOf s p i) (isFirstOut s { owner := p, index := i }) := by
  have hseg : (Fin.ofNat 35 (2 * p.val + i.val / 8)).val = 2 * p.val + i.val / 8 := by
    rw [Fin.val_ofNat]
    omega
  have howner : Fin.ofNat 16 ((8 * (2 * p.val + i.val / 8) + common.val) / 16) = p := by
    apply Fin.ext
    rw [Fin.val_ofNat]
    omega
  have hindex : Fin.ofNat 16 ((8 * (2 * p.val + i.val / 8) + common.val) % 16) = i := by
    apply Fin.ext
    rw [Fin.val_ofNat]
    omega
  have hlt : 2 * p.val + i.val / 8 < 32 := by omega
  simp only [cellPattern, hseg, if_pos hlt, howner, hindex]

/-- The cell of a presence icon (Table 74). -/
theorem cellPattern_presence (s : State) {p : Fin 16} {common : Fin 8} (h : p.val % 8 = common.val) :
    cellPattern s (Fin.ofNat 35 (32 + p.val / 8)) common = presencePattern s p := by
  have hseg : (Fin.ofNat 35 (32 + p.val / 8)).val = 32 + p.val / 8 := by
    rw [Fin.val_ofNat]
    omega
  have hnot : ¬32 + p.val / 8 < 32 := by omega
  simp only [cellPattern, hseg, if_neg hnot]
  by_cases hlow : p.val < 8
  · have hp : Fin.ofNat 16 common.val = p := Fin.ext (by rw [Fin.val_ofNat]; omega)
    rw [if_pos (by omega), hp]
  · have hp : Fin.ofNat 16 (8 + common.val) = p := Fin.ext (by rw [Fin.val_ofNat]; omega)
    rw [if_neg (by omega), if_pos (by omega), hp]

/-- The cell of a local icon (Table 74). -/
theorem patternOn_localIcon (s : State) (common : Fin 8) (step : Fin 16) :
    patternOn (cellPattern s 34 common) step = localIcon s common := by
  have hpattern : cellPattern s 34 common = if localIcon s common = true then .steady else .off := rfl
  rw [hpattern]
  cases localIcon s common <;> rfl

/-- Settles O48. -/
theorem commonPeriodTakesTheCells : Obligations.CommonPeriodTakesTheCells := by
  intro c s hreset hcommon
  have hexec : exec .commonPeriodStart s =
      .next { s with panel := { s.panel with
        common := some (c + 1), lcdFrame := if c = 7 then s.panel.lcdFrame + 1 else s.panel.lcdFrame
        cells := Vector.ofFn fun k => cellValue s k (c + 1) } } := by
    simp only [exec, execCommonPeriodStart, hreset, hcommon]
    rfl
  refine ⟨_, hexec, rfl, rfl, fun hl k => ?_, fun hl htest k => ?_, fun hl htest => ⟨fun p i hi => ?_, fun p hp => ?_, ?_⟩, rfl⟩
  · rw [get_ofFn_fin, cellValue_loading hl]
  · rw [get_ofFn_fin, cellValue_test hl htest]
  · rw [get_ofFn_fin, cellValue_pattern hl htest, cellPattern_point s hi]
  · rw [get_ofFn_fin, cellValue_pattern hl htest, cellPattern_presence s hp]
  · rw [get_ofFn_fin, cellValue_pattern hl htest, patternOn_localIcon]

/-! ### The tone instants (O49) -/

theorem exec_toneInstant (k : ToneInstant) {s : State} (h : loading s = false) :
    exec (.toneInstant k) s =
      .next { s with panel := { s.panel with hornPeriod := hornAtInstant k s, hornCut := false } } :=
  if_neg (by simp [h])

/-- With the sounding condition false no tone runs (R153). -/
theorem hornAtInstant_silent (k : ToneInstant) {s : State} (h : sounding s = false) : hornAtInstant k s = none :=
  if_pos (by simp [h])

/-- The tone in use is the high one where CONTINUOUS is set or FAST is on (R138, R154). -/
theorem toneInUse_eq (s : State) :
    toneInUse s = if s.panel.tone = .continuous ∨ s.time.wheel.val / 2048 % 4 < 2 then .high else .low := by
  have hfast : patternOn .fast (wheelStep s.time.wheel) = decide (s.time.wheel.val / 2048 % 4 < 2) := by
    rw [patternOn, wheelStep_val]
  unfold toneInUse
  cases s.panel.tone with
  | continuous => rfl
  | warble => simp [warble, hfast]

/-- Where the period in progress is over, or cut off, a tone begins at an instant of its own period (R154). -/
theorem hornAtInstant_begins {k : ToneInstant} {s : State} (h : sounding s = true)
    (hover : s.panel.hornPeriod = none ∨ s.panel.hornCut = true ∨ k = .of32 ∨
      s.panel.hornPeriod.map (·.tone) = some .high) :
    hornAtInstant k s = if mayBegin (toneInUse s) k = true then some { tone := toneInUse s, elapsed := 0 } else none := by
  have hnone : (if s.panel.hornCut then none else s.panel.hornPeriod.bind (periodAtInstant k)) = none := by
    cases hcut : s.panel.hornCut with
    | true => rfl
    | false =>
      cases hperiod : s.panel.hornPeriod with
      | none => rfl
      | some t =>
        have hends : k = .of32 ∨ t.tone = .high := by simpa [hperiod, hcut] using hover
        have hperiodEnds : periodAtInstant k t = none := by
          unfold periodAtInstant
          rcases hends with rfl | htone
          · cases t.tone <;> rfl
          · rw [htone]
        simpa using hperiodEnds
  have hsounds : ¬(!sounding s) = true := by simp [h]
  rw [hornAtInstant, if_neg hsounds, hnone]

/-- A low period runs on through an instant of period 16 (log entry 19). -/
theorem hornAtInstant_runsOn {s : State} (h : sounding s = true) (hcut : s.panel.hornCut = false)
    (hlow : s.panel.hornPeriod.map (·.tone) = some .low) :
    hornAtInstant .of16 s = some { tone := .low, elapsed := 16 } := by
  obtain ⟨t, ht, htone⟩ := Option.map_eq_some_iff.mp hlow
  have hperiod : periodAtInstant .of16 t = some { tone := .low, elapsed := 16 } := by
    obtain ⟨tone, elapsed⟩ := t
    obtain rfl : tone = .low := htone
    rfl
  simp [hornAtInstant, h, hcut, ht, hperiod]

/-- Settles O49. -/
theorem toneBeginsAtItsOwnInstant : Obligations.ToneBeginsAtItsOwnInstant := by
  intro k s hl
  refine ⟨_, exec_toneInstant k hl, fun hsilent => ?_, fun hsounds hover => ⟨fun hhigh => ?_, fun htone hslow => ?_⟩,
    fun hsounds hcut hlow hk => ?_, rfl⟩
  · have hnone := hornAtInstant_silent k hsilent
    simp [hornHigh, hnone]
  · have hbegins := hornAtInstant_begins hsounds hover
    rw [toneInUse_eq, if_pos hhigh] at hbegins
    simp only [hornHigh, hbegins]
    cases k <;> exact ⟨rfl, rfl⟩
  · have hbegins := hornAtInstant_begins hsounds hover
    have hlow : ¬(s.panel.tone = .continuous ∨ s.time.wheel.val / 2048 % 4 < 2) := by
      rw [htone]
      rintro (h | h)
      · cases h
      · omega
    rw [toneInUse_eq, if_neg hlow] at hbegins
    refine ⟨fun hk => ?_, fun hk => ?_⟩
    · subst hk
      simp [hornHigh, hbegins, mayBegin]
    · subst hk
      simp [hornHigh, hbegins, mayBegin, tonePeriod]
  · subst hk
    have hruns := hornAtInstant_runsOn hsounds hcut hlow
    simp [hornHigh, hruns, tonePeriod]

/-! ### What the panel shows (O50) -/

/-- The six patterns in the wheel steps (Table 68), and the warble selection (R138). -/
theorem patternOn_steps (step : Fin 16) :
    patternOn .off step = false ∧ patternOn .steady step = true ∧
      (patternOn .fast step = true ↔ step ∈ [0, 1, 4, 5, 8, 9, 12, 13]) ∧
      (patternOn .slow step = true ↔ step ∈ [0, 1, 2, 3, 4, 5, 6, 7]) ∧
      (patternOn .brokenFast step = true ↔ step ∈ [0, 1, 4, 5, 8, 9]) ∧
      (patternOn .wink step = true ↔ step ∈ [0, 1]) ∧
      (warble step = .high ↔ patternOn .fast step = true) := by
  revert step
  decide

/-- The pattern of a row that is not VACANT (Table 75). -/
theorem pointPattern_of_content {row : MirrorRow} {pair : PointPair} (h : row.content = some pair) (firstOut : Bool) :
    (pair.state = .quiet → pointPattern row firstOut = .off) ∧
    (pair.state ≠ .quiet → row.stale = true → pointPattern row firstOut = .wink) ∧
    (row.stale = false →
      (unacked pair.state = true → pointPattern row firstOut = if firstOut = true then .brokenFast else .fast) ∧
      (pair.state = .held → pointPattern row firstOut = if firstOut = true then .slow else .steady) ∧
      (pair.state = .cleared → pointPattern row firstOut = .slow)) := by
  simp only [pointPattern, h]
  cases pair.state <;> cases row.stale <;> simp [unacked]

theorem anyFlag_iff (f : StatusFlags) : anyFlag f = true ↔ f ≠ noFlags := by
  obtain ⟨configFault, supplyWarning, lineFault, solo⟩ := f
  simp only [anyFlag, noFlags, ne_eq, StatusFlags.mk.injEq]
  cases configFault <;> cases supplyWarning <;> cases lineFault <;> cases solo <;> decide

/-- The pattern of the presence icon of a peer (Table 76). -/
theorem presencePattern_of_peer {s : State} {p : Fin 16} (hp : p ≠ ownNumber s) :
    (s.peers[p].state = .absent → presencePattern s p = .off) ∧
    (s.peers[p].state = .present → s.peers[p].flags = noFlags → presencePattern s p = .steady) ∧
    (s.peers[p].state = .present → s.peers[p].flags ≠ noFlags → presencePattern s p = .slow) ∧
    (s.peers[p].state = .lost → presencePattern s p = .fast) ∧
    (s.peers[p].state = .departed → presencePattern s p = .wink) := by
  rw [presencePattern, if_neg hp]
  refine ⟨fun h => ?_, fun h hflags => ?_, fun h hflags => ?_, fun h => ?_, fun h => ?_⟩
  · rw [h]
  · rw [h]
    exact if_neg fun hany => (anyFlag_iff _).mp hany hflags
  · rw [h]
    exact if_pos ((anyFlag_iff _).mpr hflags)
  · rw [h]
  · rw [h]

/-- The conditions of the local icons (Table 77). -/
theorem localIcon_iff (s : State) :
    (localIcon s 0 = true ↔ s.startup.configFault = true) ∧ (localIcon s 1 = true ↔ s.access.lineFault = true) ∧
      (localIcon s 2 = true ↔ s.member.own = .duplicate) ∧ (localIcon s 3 = true ↔ s.startup.supplyWarning = true) ∧
      (localIcon s 4 = true ↔ s.member.own = .solo) ∧ (localIcon s 5 = true ↔ s.queue.refused = true) ∧
      (localIcon s 6 = true ↔ silencedCondition s = true) ∧ (localIcon s 7 = true ↔ s.keys.testHeld = true) :=
  ⟨.rfl, .rfl, beq_iff_eq, .rfl, beq_iff_eq, .rfl, .rfl, .rfl⟩

/-- The drive levels of a running frame by its polarity (Table 73). -/
theorem levels_of_common {s : State} {sel : Fin 8} (h : s.panel.common = some sel) (c : Fin 8) (k : Fin 35) :
    (s.panel.lcdFrame % 2 = 0 →
      comLevel s c = (if c = sel then 4 else 1) ∧ segLevel s k = if s.panel.cells[k] = true then 0 else 2) ∧
    (s.panel.lcdFrame % 2 = 1 →
      comLevel s c = (if c = sel then 0 else 3) ∧ segLevel s k = if s.panel.cells[k] = true then 4 else 2) := by
  simp only [comLevel, segLevel, lcdPolarity, h]
  refine ⟨fun heven => ?_, fun hodd => ?_⟩
  · rw [if_pos heven]
    exact ⟨rfl, rfl⟩
  · rw [if_neg (by omega)]
    exact ⟨rfl, rfl⟩

theorem anyRow_iff (s : State) (test : MirrorRow → Bool) :
    anyRow s test = true ↔ ∃ q i : Fin 16, test (rowOf s q i) = true := by
  simp [anyRow]

theorem rowIs_unacked_iff (row : MirrorRow) :
    rowIs unacked row = true ↔ ∃ pair ∈ row.content, pair.state = .raised ∨ pair.state = .lapsed := by
  have hunacked (state : PointState) : unacked state = true ↔ state = .raised ∨ state = .lapsed := by
    cases state <;> decide
  cases hcontent : row.content with
  | none => simp [rowIs, hcontent]
  | some pair => simp [rowIs, hcontent, hunacked]

theorem unpublishedRaise_iff (r : OwnPoint) :
    unpublishedRaise r = true ↔ r.enabled = true ∧ (r.state = .raised ∨ r.state = .lapsed) ∧
      r.published.map (·.version) ≠ some r.version := by
  have hunacked : unacked r.state = true ↔ r.state = .raised ∨ r.state = .lapsed := by
    cases r.state <;> decide
  simp [unpublishedRaise, hunacked, and_assoc]

/-- The horn demand, row by row and record by record (R110). -/
theorem hornDemand_iff (s : State) :
    hornDemand s = true ↔
      (∃ q i : Fin 16, (rowOf s q i).horn = true) ∨
        ∃ i : Fin 16, s.points[i].enabled = true ∧ (s.points[i].state = .raised ∨ s.points[i].state = .lapsed) ∧
          s.points[i].published.map (·.version) ≠ some s.points[i].version := by
  have hpoints : s.points.toList.any unpublishedRaise = true ↔ ∃ i : Fin 16, unpublishedRaise s.points[i] = true := by
    rw [Vector.any_toList, Vector.any_iff_exists]
    exact (Fin.exists_iff (p := fun i : Fin 16 => unpublishedRaise s.points[i] = true)).symm
  simp only [hornDemand, Bool.or_eq_true, anyRow_iff, hpoints, unpublishedRaise_iff]

/-- Settles O50. -/
theorem panelShowsWhatStands : Obligations.PanelShowsWhatStands := by
  intro s step row firstOut p c k
  refine ⟨patternOn_steps step, fun h => ?_, fun pair h => pointPattern_of_content h firstOut, fun h => if_pos h,
    presencePattern_of_peer, localIcon_iff s, fun h => ?_, fun sel h => levels_of_common h c k, hornDemand_iff s, ?_, ?_, ?_⟩
  · simp only [pointPattern, h]
  · simp [comLevel, segLevel, h]
  · simp only [silencedCondition, Bool.and_eq_true, Bool.not_eq_true', anyRow_iff, rowIs_unacked_iff]
  · simp only [alertnActive, alertCondition, Bool.and_eq_true, Bool.not_eq_true', anyRow_iff, rowIs_unacked_iff]
  · simp [-Fin.getElem_fin, faultnActive, or_assoc]

end Sys2Proof.Machine
end

section
/-! PROOFS. One tick of the time base: the commands that fall due, the line clock and the step with no command waiting
(O3). -/

namespace Sys2Proof.Machine

open Sys2Proof.Safety

/-! ### The commands due at a tick (O3) -/

theorem mem_ite_singleton {P : Prop} [Decidable P] {c x : Instr} : c ∈ (if P then [x] else []) ↔ c = x ∧ P := by
  by_cases h : P <;> simp [h]

theorem mem_dueTimers (u : State) (c : Instr) :
    c ∈ dueTimers u ↔
      (c = .presenceTimerExpiry ∧ expired (presencePeriod u) u.access.presenceTimer = true) ∨
      (c = .listenWindowEnd ∧ expired (listenWindow u) u.member.listenTimer = true) ∨
      ∃ p : Fin 16, c = .lostTimerExpiry p ∧ expired (lostLength u) u.peers[p].silence = true := by
  simp only [dueTimers, List.mem_append, mem_ite_singleton, List.mem_map, List.mem_filter, List.mem_finRange, true_and, or_assoc]
  simp only [eq_comm (a := c), and_comm]

theorem mem_dueLoading (u : State) (c : Instr) :
    c ∈ dueLoading u ↔ loading u = true ∧
      ((c = .cdiSample u.pins.cdi ∧ readingImage u = true ∧ u.time.tickCount % 4 = 0 ∧ u.time.tickCount ≤ 640) ∨
        c = .endOfLoading ∧ u.time.tickCount = 644) := by
  unfold dueLoading
  cases loading u with
  | false => simp
  | true => simp only [if_true, List.mem_append, mem_ite_singleton, true_and]

/-- The command of an instant, if there is one and the station is not in LOADING. -/
def dueAt {α : Type} (u : State) (instant : Option α) (command : α → Instr) : List Instr :=
  instant.elim [] fun k => if loading u then [] else [command k]

theorem dueInstants_eq (u : State) :
    dueInstants u =
      dueAt u (sampleClass u.time.tickCount) (.fieldInputSample · u.pins.fi) ++
        (if u.time.tickCount % 256 = 0 ∧ !loading u then [.keySample u.pins.keys] else []) ++
        (if u.time.tickCount % 64 = 0 then [.commonPeriodStart] else []) ++
        dueAt u (toneInstantAt u.time.tickCount) .toneInstant := by
  simp only [dueInstants, dueAt]
  cases sampleClass u.time.tickCount <;> cases toneInstantAt u.time.tickCount <;> rfl

theorem mem_dueAt {α : Type} {u : State} {instant : Option α} {command : α → Instr} {c : Instr} :
    c ∈ dueAt u instant command ↔ loading u = false ∧ ∃ k, instant = some k ∧ c = command k := by
  unfold dueAt
  cases instant <;> cases loading u <;> simp

theorem mem_dueInstants (u : State) (c : Instr) :
    c ∈ dueInstants u ↔
      (loading u = false ∧ ∃ k, sampleClass u.time.tickCount = some k ∧ c = .fieldInputSample k u.pins.fi) ∨
      (c = .keySample u.pins.keys ∧ u.time.tickCount % 256 = 0 ∧ loading u = false) ∨
      (c = .commonPeriodStart ∧ u.time.tickCount % 64 = 0) ∨
      (loading u = false ∧ ∃ k, toneInstantAt u.time.tickCount = some k ∧ c = .toneInstant k) := by
  simp only [dueInstants_eq, List.mem_append, mem_dueAt, mem_ite_singleton, Bool.not_eq_true', or_assoc]

theorem sampleClass_eq_iff (t : Nat) :
    (sampleClass t = some .c ↔ t % 2048 = 0) ∧ (sampleClass t = some .b ↔ t % 256 = 0 ∧ t % 2048 ≠ 0) ∧
      (sampleClass t = some .a ↔ t % 32 = 0 ∧ t % 256 ≠ 0) := by
  unfold sampleClass
  by_cases hc : t % 2048 = 0
  · have hb : t % 256 = 0 := by omega
    simp [hc, hb]
  · by_cases hb : t % 256 = 0
    · simp [hc, hb]
    · by_cases ha : t % 32 = 0 <;> simp [hc, hb, ha]

theorem toneInstantAt_eq_iff (t : Nat) :
    (toneInstantAt t = some .of32 ↔ t % 32 = 0) ∧ (toneInstantAt t = some .of16 ↔ t % 16 = 0 ∧ t % 32 ≠ 0) := by
  unfold toneInstantAt
  by_cases h32 : t % 32 = 0
  · simp [h32]
  · by_cases h16 : t % 16 = 0 <;> simp [h32, h16]

/-- The place of a due command among those of one tick. -/
def dueRank : Instr → Nat
  | .presenceTimerExpiry => 0
  | .listenWindowEnd => 1
  | .lostTimerExpiry p => 2 + p.val
  | .jamEvent => 18
  | .lineQuiet => 19
  | .cdiSample _ => 20
  | .endOfLoading => 21
  | .fieldInputSample _ _ => 22
  | .keySample _ => 23
  | .commonPeriodStart => 24
  | _ => 25

/-- The commands stand in the order of their places, which lie from `lo` to before `hi`. -/
def Ranked (lo hi : Nat) (l : List Instr) : Prop :=
  l.Pairwise (fun c d => dueRank c < dueRank d) ∧ ∀ c ∈ l, lo ≤ dueRank c ∧ dueRank c < hi

theorem Ranked.append {lo mid hi : Nat} {l m : List Instr} (hl : Ranked lo mid l) (hm : Ranked mid hi m) (hlo : lo ≤ mid)
    (hhi : mid ≤ hi) : Ranked lo hi (l ++ m) := by
  obtain ⟨hpl, hbl⟩ := hl
  obtain ⟨hpm, hbm⟩ := hm
  refine ⟨List.pairwise_append.mpr ⟨hpl, hpm, fun c hc d hd => ?_⟩, fun c hc => ?_⟩
  · exact (hbl c hc).2.trans_le (hbm d hd).1
  · rcases List.mem_append.mp hc with hc | hc
    · exact ⟨(hbl c hc).1, (hbl c hc).2.trans_le hhi⟩
    · exact ⟨hlo.trans (hbm c hc).1, (hbm c hc).2⟩

theorem ranked_nil (lo hi : Nat) : Ranked lo hi [] := ⟨.nil, fun _ hc => absurd hc List.not_mem_nil⟩

theorem ranked_single (c : Instr) : Ranked (dueRank c) (dueRank c + 1) [c] :=
  ⟨List.pairwise_singleton _ c, fun d hd => by rw [List.mem_singleton.mp hd]; omega⟩

theorem ranked_ite {P : Prop} [Decidable P] (c : Instr) : Ranked (dueRank c) (dueRank c + 1) (if P then [c] else []) := by
  split
  · exact ranked_single c
  · exact ranked_nil _ _

theorem dueTimers_ranked (u : State) : Ranked 0 18 (dueTimers u) := by
  have hlost : Ranked 2 18
      (((List.finRange 16).filter fun p => expired (lostLength u) u.peers[p].silence).map .lostTimerExpiry) := by
    refine ⟨List.pairwise_map.mpr (((List.pairwise_lt_finRange 16).filter _).imp fun h => ?_), fun c hc => ?_⟩
    · exact Nat.add_lt_add_left h 2
    · obtain ⟨p, -, rfl⟩ := List.mem_map.mp hc
      exact ⟨Nat.le_add_right 2 p.val, Nat.add_lt_add_left p.isLt 2⟩
  exact ((ranked_ite .presenceTimerExpiry).append (ranked_ite .listenWindowEnd) (by decide) (by decide)).append hlost
    (by decide) (by decide)

theorem dueLine_ranked (s : State) : Ranked 18 20 (dueLine s) :=
  (ranked_ite .jamEvent).append (ranked_ite .lineQuiet) (by decide) (by decide)

theorem dueLoading_ranked (u : State) : Ranked 20 22 (dueLoading u) := by
  unfold dueLoading
  split
  · exact (ranked_ite (.cdiSample u.pins.cdi)).append (ranked_ite .endOfLoading) (Nat.le_succ _) (Nat.le_succ _)
  · exact ranked_nil _ _

theorem dueAt_ranked {α : Type} (u : State) (instant : Option α) {command : α → Instr} {lo : Nat}
    (h : ∀ k, dueRank (command k) = lo) : Ranked lo (lo + 1) (dueAt u instant command) := by
  unfold dueAt
  cases instant with
  | none => exact ranked_nil _ _
  | some k =>
    have hsingle := ranked_single (command k)
    rw [h k] at hsingle
    cases loading u
    · exact hsingle
    · exact ranked_nil _ _

theorem dueInstants_ranked (u : State) : Ranked 22 26 (dueInstants u) := by
  have hsample : Ranked 22 23 (dueAt u (sampleClass u.time.tickCount) (.fieldInputSample · u.pins.fi)) :=
    dueAt_ranked u _ fun _ => rfl
  have hkeys : Ranked 23 24 (if u.time.tickCount % 256 = 0 ∧ !loading u then [.keySample u.pins.keys] else []) :=
    ranked_ite (.keySample u.pins.keys)
  have htone : Ranked 25 26 (dueAt u (toneInstantAt u.time.tickCount) .toneInstant) := dueAt_ranked u _ fun _ => rfl
  rw [dueInstants_eq]
  exact ((hsample.append hkeys (by decide) (by decide)).append (ranked_ite .commonPeriodStart) (by decide)
    (by decide)).append htone (by decide) (by decide)

theorem tick_pending_ranked {s : State} (h : inReset s = false) : Ranked 0 26 (tick s).pending := by
  rw [tick_running h]
  exact (((dueTimers_ranked _).append (dueLine_ranked s) (by decide) (by decide)).append (dueLoading_ranked _)
    (by decide) (by decide)).append (dueInstants_ranked _) (by decide) (by decide)

theorem Ranked.nodup {lo hi : Nat} {l : List Instr} (h : Ranked lo hi l) : l.Nodup :=
  h.1.imp fun hlt heq => by rw [heq] at hlt; exact absurd hlt (lt_irrefl _)

/-- A command of a lower place comes first. -/
theorem Ranked.idxOf_lt {lo hi : Nat} {l : List Instr} (h : Ranked lo hi l) {c d : Instr} (hc : c ∈ l) (hd : d ∈ l)
    (hlt : dueRank c < dueRank d) : l.idxOf c < l.idxOf d := by
  by_contra hle
  have hci := List.idxOf_lt_length_of_mem hc
  have hdi := List.idxOf_lt_length_of_mem hd
  have hne : l.idxOf d ≠ l.idxOf c := fun heq => by
    rw [(List.idxOf_inj hd).mp heq] at hlt
    exact lt_irrefl _ hlt
  have hrank := List.pairwise_iff_getElem.mp h.1 _ _ hdi hci (by omega)
  rw [List.getElem_idxOf, List.getElem_idxOf] at hrank
  omega

/-! ### The line clock over one tick (O3) -/

theorem length_beforeEach (l : LineInterface) (halves : List Bool) : (beforeEach l halves).length = halves.length := by
  induction halves generalizing l with
  | nil => rfl
  | cons h halves ih => exact congrArg (· + 1) (ih _)

theorem getElem_beforeEach (l : LineInterface) (halves : List Bool) {i : Nat} (hi : i < (beforeEach l halves).length)
    (hi' : i < halves.length) :
    (beforeEach l halves)[i] = ((halves.take i).foldl LineInterface.hear l, halves[i]) := by
  induction halves generalizing l i with
  | nil => exact absurd hi' (Nat.not_lt_zero i)
  | cons h halves ih =>
    cases i with
    | zero => rfl
    | succ i => exact ih (l.hear h) (Nat.lt_of_succ_lt_succ hi) (Nat.lt_of_succ_lt_succ hi')

theorem quietRun_concat (count : Nat) (halves : List Bool) (h : Bool) :
    quietRun count (halves ++ [h]) = if h = true then 0 else quietRun count halves + 1 := by
  cases h with
  | true => simp [quietRun]
  | false =>
    by_cases hany : true ∈ halves <;> simp [quietRun, hany, Nat.add_assoc]

theorem quietRun_take_succ (count : Nat) {halves : List Bool} {i : Nat} (hi : i < halves.length) :
    quietRun count (halves.take (i + 1)) = if halves[i] = true then 0 else quietRun count (halves.take i) + 1 := by
  rw [← List.take_concat_get' _ _ hi, quietRun_concat]

section Busy

variable {l : LineInterface} (hbusy : l.status = .busy)

include hbusy

/-- The half that ends a run of 24 without carrier is the one at which the line becomes QUIET (R28). -/
theorem endsInQuiet_iff (hbelow : l.quietCount ≠ 24) {halves : List Bool} {i : Nat} (hi : i < (beforeEach l halves).length) :
    endsInQuiet (beforeEach l halves)[i] = true ↔ 24 ≤ quietRun l.quietCount.val (halves.take (i + 1)) := by
  have hi' : i < halves.length := by rwa [length_beforeEach] at hi
  have hcount := foldl_hear_quietCount (halves.take i) l hbusy hbelow
  have hstatus : ((halves.take i).foldl LineInterface.hear l).status = .busy := by simpa using hbusy
  have h23 : ((halves.take i).foldl LineInterface.hear l).quietCount = 23 ↔
      23 ≤ quietRun l.quietCount.val (halves.take i) := by
    rw [Fin.ext_iff, hcount]
    have hval : ((23 : Fin 25)).val = 23 := rfl
    omega
  rw [getElem_beforeEach l halves hi hi', quietRun_take_succ _ hi']
  cases hhalf : halves[i] <;> simp [endsInQuiet, hstatus, h23]

theorem not_endsInQuiet_iff (hbelow : l.quietCount ≠ 24) {halves : List Bool} {i : Nat}
    (hi : i < (beforeEach l halves).length) :
    endsInQuiet (beforeEach l halves)[i] = false ↔ quietRun l.quietCount.val (halves.take (i + 1)) < 24 := by
  rw [← Bool.not_eq_true, endsInQuiet_iff hbusy hbelow hi, Nat.not_le]

omit hbusy in
/-- A run without carrier grows by one half at a time. -/
theorem quietRun_take_le (hbelow : l.quietCount ≠ 24) {halves : List Bool} {i : Nat} (hi : i < halves.length)
    (hbefore : 0 < i → quietRun l.quietCount.val (halves.take i) < 24) :
    quietRun l.quietCount.val (halves.take (i + 1)) ≤ 24 := by
  have hlt : quietRun l.quietCount.val (halves.take i) < 24 := by
    rcases Nat.eq_zero_or_pos i with rfl | hpos
    · have hval : l.quietCount.val ≠ 24 := fun e => hbelow (Fin.ext e)
      have hstart : quietRun l.quietCount.val (halves.take 0) = l.quietCount.val := rfl
      omega
    · exact hbefore hpos
  rw [quietRun_take_succ _ hi]
  split <;> omega

/-- The halves up to the first that ends a run of 24 without carrier, or all of them. -/
theorem findIdx_endsInQuiet (hbelow : l.quietCount ≠ 24) (halves : List Bool) {k : Nat}
    (hk : k = min halves.length ((beforeEach l halves).findIdx endsInQuiet + 1)) :
    (∀ j < k, 0 < j → quietRun l.quietCount.val (halves.take j) < 24) ∧
      (k = halves.length ∨ 0 < k ∧ quietRun l.quietCount.val (halves.take k) = 24) := by
  have hlength := length_beforeEach l halves
  have hbefore : ∀ j < k, 0 < j → quietRun l.quietCount.val (halves.take j) < 24 := by
    intro j hj hpos
    obtain ⟨i, rfl⟩ : ∃ i, j = i + 1 := ⟨j - 1, by omega⟩
    have hi : i < (beforeEach l halves).length := by omega
    exact (not_endsInQuiet_iff hbusy hbelow hi).mp
      (List.not_of_lt_findIdx (show i < (beforeEach l halves).findIdx endsInQuiet by omega))
  refine ⟨hbefore, ?_⟩
  by_cases hfound : (beforeEach l halves).findIdx endsInQuiet < halves.length
  · have hkeq : k = (beforeEach l halves).findIdx endsInQuiet + 1 := by omega
    have hge := (endsInQuiet_iff hbusy hbelow _).mp
      (List.findIdx_getElem (p := endsInQuiet) (w := by rwa [hlength]))
    have hle := quietRun_take_le hbelow hfound (hbefore _ (by omega))
    rw [← hkeq] at hge hle
    exact .inr ⟨by omega, by omega⟩
  · exact .inl (by omega)

/-- The line becomes QUIET with the last of these halves, if no run of 24 without carrier has ended before. -/
theorem any_endsInQuiet_iff (hbelow : l.quietCount ≠ 24) {halves : List Bool}
    (hbefore : ∀ j < halves.length, 0 < j → quietRun l.quietCount.val (halves.take j) < 24) :
    (beforeEach l halves).any endsInQuiet = true ↔ 0 < halves.length ∧ quietRun l.quietCount.val halves = 24 := by
  have hlength := length_beforeEach l halves
  rw [List.any_eq_true]
  constructor
  · rintro ⟨x, hx, hquiet⟩
    obtain ⟨i, hi, rfl⟩ := List.mem_iff_getElem.mp hx
    have hge := (endsInQuiet_iff hbusy hbelow hi).mp hquiet
    have hlast : i + 1 = halves.length := by
      by_contra hne
      have hlt := hbefore (i + 1) (by omega) (Nat.succ_pos i)
      omega
    have hle := quietRun_take_le hbelow (show i < halves.length by omega) (hbefore i (by omega))
    rw [hlast, List.take_length] at hge hle
    exact ⟨by omega, by omega⟩
  · rintro ⟨hpos, hrun⟩
    have hi : halves.length - 1 < (beforeEach l halves).length := by omega
    refine ⟨_, List.getElem_mem hi, (endsInQuiet_iff hbusy hbelow hi).mpr ?_⟩
    rw [Nat.sub_add_cancel hpos, List.take_length, hrun]

theorem endsInJam_iff {halves : List Bool} {i : Nat} (hi : i < (beforeEach l halves).length) :
    endsInJam (beforeEach l halves)[i] = true ↔
      l.jamCount ≠ 2048 ∧ (l.decided + i + 1) % 2 = 0 ∧
        2047 ≤ l.jamCount.val + ((l.decided + i) / 2 - l.decided / 2) := by
  have hi' : i < halves.length := by rwa [length_beforeEach] at hi
  have hcount := foldl_hear_jamCount (halves.take i) l hbusy
  have hstatus : ((halves.take i).foldl LineInterface.hear l).status = .busy := by simpa using hbusy
  have hdecided : ((halves.take i).foldl LineInterface.hear l).decided = l.decided + i := by
    rw [(foldl_hear_frame _ _).2.2.2.2, List.length_take, Nat.min_eq_left hi'.le]
  rw [List.length_take, Nat.min_eq_left hi'.le] at hcount
  have hjam (j : Fin 2049) : (jamStep j).2 = true ↔ j.val = 2047 := by
    unfold jamStep
    split
    · simp
    · simp
      omega
  rw [getElem_beforeEach l halves hi hi']
  simp only [endsInJam, hstatus, hdecided, Bool.and_eq_true, beq_iff_eq, hjam, hcount, true_and]
  by_cases hfull : l.jamCount = 2048
  · simp [hfull]
  · simp only [hfull, if_false, ne_eq, not_false_eq_true, true_and]
    omega

/-- The 2048th BT on a BUSY line ends with one of these halves (R38). -/
theorem any_endsInJam_iff (halves : List Bool) :
    (beforeEach l halves).any endsInJam = true ↔
      l.jamCount ≠ 2048 ∧
        2048 ≤ l.jamCount.val + ((l.decided + halves.length) / 2 - l.decided / 2) := by
  have hlength := length_beforeEach l halves
  rw [List.any_eq_true]
  constructor
  · rintro ⟨x, hx, hjam⟩
    obtain ⟨i, hi, rfl⟩ := List.mem_iff_getElem.mp hx
    obtain ⟨hne, heven, hle⟩ := (endsInJam_iff hbusy hi).mp hjam
    exact ⟨hne, by omega⟩
  · rintro ⟨hne, hle⟩
    have hlt : l.jamCount.val < 2048 := by
      have hval : l.jamCount.val ≠ 2048 := fun e => hne (Fin.ext e)
      omega
    obtain ⟨i, hi, heven, hlast⟩ : ∃ i < halves.length, (l.decided + i + 1) % 2 = 0 ∧
        (l.decided + i + 1) / 2 = (l.decided + halves.length) / 2 := by
      by_cases hparity : (l.decided + halves.length) % 2 = 0
      · exact ⟨halves.length - 1, by omega, by omega, by omega⟩
      · exact ⟨halves.length - 2, by omega, by omega, by omega⟩
    have hi' : i < (beforeEach l halves).length := by omega
    exact ⟨_, List.getElem_mem hi', (endsInJam_iff hbusy hi').mpr ⟨hne, heven, by omega⟩⟩

end Busy

/-! ### One tick (O3) -/

theorem tickLine_pins (s : State) : (tickLine s).pins = { s.pins with lrx := s.pins.lrx.drop (halvesOfTick s) } := by
  by_cases hwait : s.line.receiver = .wait
  · simp only [tickLine, if_pos hwait]
    rfl
  · have hnone : halvesOfTick s = 0 := if_neg hwait
    rw [tickLine_of_not_wait hwait, hnone]
    rfl

theorem mem_dueLine (s : State) (c : Instr) :
    c ∈ dueLine s ↔
      (c = .jamEvent ∧ (beforeEach s.line (halvesOn s.pins (halvesOfTick s))).any endsInJam = true) ∨
      (c = .lineQuiet ∧ (beforeEach s.line (halvesOn s.pins (halvesOfTick s))).any endsInQuiet = true) := by
  simp only [dueLine, List.mem_append, mem_ite_singleton]

section Tick

variable {s : State} (h : inReset s = false)

include h

theorem tick_timers :
    (tick s).access.presenceTimer = tickTimer (presencePeriod s) s.access.presenceTimer ∧
      (tick s).member.listenTimer = tickTimer (listenWindow s) s.member.listenTimer ∧
      ∀ p : Fin 16, (tick s).peers[p] = { s.peers[p] with silence := tickTimer (lostLength s) s.peers[p].silence } := by
  rw [tick_running h]
  have hperiod : presencePeriod (tickLine s) = presencePeriod s := by simp [presencePeriod]
  refine ⟨?_, ?_, fun p => ?_⟩
  · simp only [tickCounters, tickLine_frame, hperiod]
  · simp only [tickCounters, tickLine_frame, listenWindow, hperiod]
  · simp only [tickCounters, tickLine_frame, lostLength, hperiod, get_ofFn_fin]

theorem tick_line_pins : (tick s).line = (tickLine s).line ∧ (tick s).pins = (tickLine s).pins := by
  rw [tick_running h]
  exact ⟨rfl, rfl⟩

/-- The commands that a tick brings: the expiries, the line events, the start-up commands and the instants (Table 67). -/
theorem mem_tick_pending (c : Instr) :
    c ∈ (tick s).pending ↔
      ((c = .presenceTimerExpiry ∧ expired (presencePeriod s) (tick s).access.presenceTimer = true) ∨
        (c = .listenWindowEnd ∧ expired (listenWindow s) (tick s).member.listenTimer = true) ∨
        ∃ p : Fin 16, c = .lostTimerExpiry p ∧ expired (lostLength s) (tick s).peers[p].silence = true) ∨
      c ∈ dueLine s ∨
      (loading s = true ∧
        ((c = .cdiSample s.pins.cdi ∧ readingImage s = true ∧ (tick s).time.tickCount % 4 = 0 ∧
            (tick s).time.tickCount ≤ 640) ∨
          c = .endOfLoading ∧ (tick s).time.tickCount = 644)) ∨
      (loading s = false ∧ ∃ k, sampleClass (tick s).time.tickCount = some k ∧ c = .fieldInputSample k s.pins.fi) ∨
      (c = .keySample s.pins.keys ∧ (tick s).time.tickCount % 256 = 0 ∧ loading s = false) ∨
      (c = .commonPeriodStart ∧ (tick s).time.tickCount % 64 = 0) ∨
      (loading s = false ∧ ∃ k, toneInstantAt (tick s).time.tickCount = some k ∧ c = .toneInstant k) := by
  obtain ⟨u, hu⟩ : ∃ u, u = tickCounters (tickLine s) := ⟨_, rfl⟩
  have hpending : (tick s).pending = dueTimers u ++ dueLine s ++ dueLoading u ++ dueInstants u := by
    rw [tick_running h, hu]
  have hblocks : (tick s).access = u.access ∧ (tick s).member = u.member ∧ (tick s).peers = u.peers ∧
      (tick s).time = u.time := by
    rw [tick_running h, hu]
    exact ⟨rfl, rfl, rfl, rfl⟩
  obtain ⟨haccess, hmember, hpeers, htime⟩ := hblocks
  have hloading : loading u = loading s := by rw [hu]; simp [loading, tickCounters]
  have hreading : readingImage u = readingImage s := by
    rw [hu]; simp [readingImage, loading, inReset, tickCounters]
  have hpins : u.pins.cdi = s.pins.cdi ∧ u.pins.fi = s.pins.fi ∧ u.pins.keys = s.pins.keys := by
    rw [hu]; simp [tickCounters, tickLine_pins]
  have hlengths : presencePeriod u = presencePeriod s ∧ listenWindow u = listenWindow s ∧ lostLength u = lostLength s := by
    rw [hu]; simp [presencePeriod, listenWindow, lostLength, tickCounters]
  obtain ⟨hcdi, hfi, hkeys⟩ := hpins
  obtain ⟨hpresence, hlisten, hlost⟩ := hlengths
  rw [hpending, haccess, hmember, hpeers, htime]
  simp only [List.mem_append, mem_dueTimers, mem_dueLoading, mem_dueInstants, hloading, hreading, hcdi, hfi, hkeys,
    hpresence, hlisten, hlost, or_assoc]

end Tick

theorem tickTimer_eq (length : Nat) (t : Timer) :
    tickTimer length t =
      if t.running = true ∧ t.ticks < length then { running := true, ticks := t.ticks + 1 } else t := by
  obtain ⟨running, ticks⟩ := t
  cases running <;> rfl

theorem expired_iff_running (length : Nat) (t : Timer) :
    expired length t = true ↔ t.running = true ∧ t.ticks = length := by
  simp [expired]

theorem windowAfterTick_eq (s : State) : windowAfterTick s = windowTicked s := by
  unfold windowAfterTick windowTicked stationLineClock lineClock
  omega

/-- The image is read during LOADING with CFGEN 1 (R161). -/
theorem readingImage_iff {s : State} (h : inReset s = false) :
    readingImage s = true ↔ loading s = true ∧ s.startup.straps.cfgen = true := by
  simp [readingImage, h]

section Tick

variable {s : State} (h : inReset s = false)

include h

theorem mem_tick_pending_line {c : Instr} (hc : c = .lineQuiet ∨ c = .jamEvent) :
    c ∈ (tick s).pending ↔ c ∈ dueLine s := by
  rw [mem_tick_pending h]
  rcases hc with rfl | rfl <;> simp

/-- Outside WAIT the line stands at a tick (R28). -/
theorem tick_line_stands (hrx : s.line.receiver ≠ .wait) :
    (tick s).line = s.line ∧ (tick s).pins = s.pins ∧ Instr.lineQuiet ∉ (tick s).pending ∧
      Instr.jamEvent ∉ (tick s).pending := by
  have hnone : dueLine s = [] := by
    have hhalves : halvesOn s.pins (halvesOfTick s) = [] :=
      List.eq_nil_of_length_eq_zero (by rw [length_halvesOn]; exact if_neg hrx)
    rw [dueLine, hhalves]
    rfl
  obtain ⟨hline, hpins⟩ := tick_line_pins h
  rw [hline, hpins, tickLine_of_not_wait hrx, mem_tick_pending_line h (.inl rfl), mem_tick_pending_line h (.inr rfl), hnone]
  exact ⟨rfl, rfl, List.not_mem_nil, List.not_mem_nil⟩

/-- In WAIT on a BUSY line a tick decides the halves that end with it, up to the 24th without carrier (R28, R38). -/
theorem tick_line_wait (hrx : s.line.receiver = .wait) (hbusy : s.line.status = .busy) (hbelow : s.line.quietCount ≠ 24) :
    ∃ k ∈ List.range (windowTicked s / 32768 + 1),
      (tick s).line = { heardLine (halvesOn s.pins k) s.line with windowPart := Fin.ofNat 32768 (windowTicked s) } ∧
      (tick s).pins = { s.pins with lrx := s.pins.lrx.drop k } ∧
      (∀ j ∈ List.range k, 0 < j → quietRun s.line.quietCount.val (halvesOn s.pins j) < 24) ∧
      (k = windowTicked s / 32768 ∨ 0 < k ∧ quietRun s.line.quietCount.val (halvesOn s.pins k) = 24) ∧
      (Instr.lineQuiet ∈ (tick s).pending ↔ 0 < k ∧ quietRun s.line.quietCount.val (halvesOn s.pins k) = 24) ∧
      (Instr.jamEvent ∈ (tick s).pending ↔
        s.line.jamCount ≠ 2048 ∧ 2048 ≤ s.line.jamCount.val + ((s.line.decided + k) / 2 - s.line.decided / 2)) := by
  have hhalves : halvesOfTick s = min (windowTicked s / 32768)
      ((beforeEach s.line (halvesOn s.pins (windowTicked s / 32768))).findIdx endsInQuiet + 1) := by
    rw [← windowAfterTick_eq]
    exact if_pos hrx
  obtain ⟨k, hk⟩ : ∃ k, k = halvesOfTick s := ⟨_, rfl⟩
  have hlength := length_halvesOn s.pins
  obtain ⟨hbefore, hlast⟩ := findIdx_endsInQuiet hbusy hbelow (halvesOn s.pins (windowTicked s / 32768)) (k := k)
    (by rw [hk, hhalves, hlength])
  have hle : k ≤ windowTicked s / 32768 := by omega
  rw [hlength, take_halvesOn s.pins hle] at hlast
  have hruns : ∀ j < k, 0 < j → quietRun s.line.quietCount.val (halvesOn s.pins j) < 24 := by
    intro j hj hpos
    have hrun := hbefore j hj hpos
    rwa [take_halvesOn s.pins (hj.le.trans hle)] at hrun
  obtain ⟨hline, hpins⟩ := tick_line_pins h
  refine ⟨k, List.mem_range.mpr (by omega), ?_, ?_, fun j hj => hruns j (List.mem_range.mp hj), hlast, ?_, ?_⟩
  · rw [hline, tickLine_line hrx, hearPins_heardLine _ fun _ => hbelow, windowAfterTick_eq, hk]
  · rw [hpins, tickLine_pins, hk]
  · have hquiet := any_endsInQuiet_iff hbusy hbelow (halves := halvesOn s.pins k) (fun j hj hpos => by
      rw [hlength] at hj
      rw [take_halvesOn s.pins hj.le]
      exact hruns j hj hpos)
    rw [hlength] at hquiet
    rw [mem_tick_pending_line h (.inl rfl), mem_dueLine, ← hk, hquiet]
    simp
  · have hjam := any_endsInJam_iff hbusy (halvesOn s.pins k)
    rw [hlength] at hjam
    rw [mem_tick_pending_line h (.inr rfl), mem_dueLine, ← hk, hjam]
    simp

/-- A tick brings no command but those of Table 67 and the line events. -/
theorem tick_pending_kinds {c : Instr} (hc : c ∈ (tick s).pending) :
    c ∈ [.presenceTimerExpiry, .listenWindowEnd, .lineQuiet, .jamEvent, .endOfLoading, .cdiSample s.pins.cdi,
      .keySample s.pins.keys, .fieldInputSample .c s.pins.fi, .fieldInputSample .b s.pins.fi,
      .fieldInputSample .a s.pins.fi, .commonPeriodStart, .toneInstant .of32, .toneInstant .of16] ∨
    ∃ p : Fin 16, c = .lostTimerExpiry p := by
  rw [mem_tick_pending h, mem_dueLine] at hc
  rcases hc with (⟨rfl, -⟩ | ⟨rfl, -⟩ | ⟨p, rfl, -⟩) | (⟨rfl, -⟩ | ⟨rfl, -⟩) | ⟨-, ⟨rfl, -⟩ | ⟨rfl, -⟩⟩ |
    ⟨-, longest, -, rfl⟩ | ⟨rfl, -⟩ | ⟨rfl, -⟩ | ⟨-, k, -, rfl⟩
  case inl.inr.inr => exact .inr ⟨p, rfl⟩
  case inr.inr.inr.inl => cases longest <;> exact .inl (by simp)
  case inr.inr.inr.inr.inr.inr => cases k <;> exact .inl (by simp)
  all_goals exact .inl (by simp)

/-- What a tick leaves. -/
theorem tick_frame :
    tick s = { s with
      startup := { s.startup with cck := (tick s).startup.cck }
      line := (tick s).line
      access := { s.access with presenceTimer := (tick s).access.presenceTimer }
      member := { s.member with listenTimer := (tick s).member.listenTimer }
      peers := (tick s).peers, time := (tick s).time
      panel := { s.panel with hornPeriod := (tick s).panel.hornPeriod, hornCut := (tick s).panel.hornCut }
      pins := { s.pins with lrx := (tick s).pins.lrx }
      pending := (tick s).pending } := by
  have hpins : (tick s).pins = { s.pins with lrx := (tick s).pins.lrx } := by
    rw [(tick_line_pins h).2, tickLine_pins]
  refine state_eq_of_fields ?_ ?_ ?_ ?_ rfl ?_ ?_ rfl ?_ ?_ ?_ rfl ?_ hpins rfl
  case refine_10 =>
    rw [tick_running h]
    simp only [tickCounters, tickHorn, tickLine_frame]
    split <;> rfl
  all_goals
    rw [tick_running h]
    simp [tickCounters]

end Tick

/-- Settles O3. -/
theorem idleStepIsOneTick : Obligations.IdleStepIsOneTick := by
  intro s hidle
  refine ⟨_, step_idle hidle, fun hreset => if_pos hreset, fun hreset => ?_⟩
  obtain ⟨hpresence, hlisten, hlost⟩ := tick_timers hreset
  have htime := tick_time hreset
  have hranked := tick_pending_ranked hreset
  have hmem := mem_tick_pending hreset
  have hjamFirst (hj : Instr.jamEvent ∈ (tick s).pending) (hq : Instr.lineQuiet ∈ (tick s).pending) :=
    hranked.idxOf_lt hj hq (by decide)
  obtain ⟨hsampleC, hsampleB, hsampleA⟩ := sampleClass_eq_iff (tick s).time.tickCount
  obtain ⟨htone32, htone16⟩ := toneInstantAt_eq_iff (tick s).time.tickCount
  refine ⟨by rw [htime], ?_, by rw [htime], by rw [hlisten, tickTimer_eq], by rw [hpresence, tickTimer_eq], fun p => ?_,
    ?_, ?_, ?_, ?_, ?_, fun p => ?_, tick_line_stands hreset, tick_line_wait hreset, hjamFirst, ?_, ?_, ?_, ?_, ?_, ?_, ?_, ?_, ?_,
    hranked.nodup, fun c hc => ?_, tick_frame hreset⟩
  · rw [htime, Fin.val_add]
    rfl
  · rw [hlost, tickTimer_eq]
    split <;> rfl
  · rw [tick_running hreset]
    simp only [tickCounters, tickLine_frame, tickCck]
    have hreading : readingImage (tickLine s) = true ↔ loading s = true ∧ s.startup.straps.cfgen = true :=
      readingImage_iff (by simpa [inReset] using hreset) |>.trans (by simp [loading])
    simp only [hreading, and_assoc]
  · rw [tick_running hreset]
    simp only [tickCounters, tickLine_frame, tickHorn]
    split <;> rfl
  · rw [tick_running hreset]
    simp only [tickCounters, tickLine_frame, tickHorn]
    split
    · rfl
    · next hcut => exact eq_false_of_ne_true hcut
  · simp [hmem, mem_dueLine, expired_iff_running]
  · simp [hmem, mem_dueLine, expired_iff_running]
  · simp [-Fin.getElem_fin, hmem, mem_dueLine, expired_iff_running]
  · simp [hmem, mem_dueLine]
  · have hloading : readingImage s = true → loading s = true := fun h => ((readingImage_iff hreset).mp h).1
    simpa [hmem, mem_dueLine] using fun h _ _ => hloading h
  · simp [hmem, mem_dueLine, and_comm]
  · simp [hmem, mem_dueLine, hsampleC]
  · simp [hmem, mem_dueLine, hsampleB]
  · simp [hmem, mem_dueLine, hsampleA]
  · simp [hmem, mem_dueLine]
  · simp [hmem, mem_dueLine, htone32]
  · simp [hmem, mem_dueLine, htone16]
  · exact tick_pending_kinds hreset hc

end Sys2Proof.Machine
end
